-- ==== Sys2Proof/Word.lean ====
section
/-! DEFINITION. The values the controller handles: bytes, logic levels, pin roles and handles, the
lifecycle values, the status, and the command word as the host presents it. -/

namespace Sys2Proof

/-- A data byte, bit 0 least significant (R15). -/
abbrev Byte := BitVec 8

/-- A logic level (R15). Its one-bit code (R85) is `Sys2Proof.Machine.levelCode`. -/
inductive Level where
  | low
  | high
  deriving DecidableEq, Repr, Inhabited

/-- The pins the controller writes (R55): roles `clock` and `program`. -/
inductive OutPin where
  | clock
  | program
  deriving DecidableEq, Repr

/-- The pins the controller reads (R56): roles `init` and `done`. -/
inductive InPin where
  | init
  | done
  deriving DecidableEq, Repr

/-- The handle of a port (R22). The handle's numeric form is the platform's: DESIGN CHOICE, log entry 7. -/
abbrev PortHandle := Nat

/-- The handle of a pin (R24 to R27): a pin of its own, or one bit of a port. The second form is there
so that "none of them as a bit of the data window" (R28) can be said. DESIGN CHOICE, log entry 7. -/
inductive PinHandle where
  | pin (n : Nat)
  | portBit (port : PortHandle) (bit : Nat)
  deriving DecidableEq, Repr

/-- The values of the lifecycle register `state` (R21); there is no fourth (R84, U15). -/
inductive Lifecycle where
  | idle
  | configuring
  | done
  deriving DecidableEq, Repr

/-- The status type: this hardware produces `OK` only (R86). -/
inductive Status where
  | ok
  deriving DecidableEq, Repr

/-- A command as the host presents it on the command channel (R81, R82, R94): the two-bit opcode, then
the operands of format C1. In format C0 there is no operand: `length` is 0 and `data` is empty.
The spec gives `length` no field width, so the channel is kept at transaction level and no byte form of
it is invented: DESIGN CHOICE, log entry 2. -/
structure CommandWord where
  op : BitVec 2
  length : Nat
  data : List Byte
  deriving DecidableEq, Repr

end Sys2Proof
end

