-- ==== Sys2Proof/Config.lean ====
section
/-! DEFINITION. What is fixed for one controller while it runs (the parameters of 00_scope.md section 5
and the binding registers of the descriptor), and the one free value: the level of an input pin. -/

namespace Sys2Proof

/-- The implementation parameters (R7, R9 to R12). They are data of the machine, so a claim over all states
holds for every value of them (D6, D22). Log entry 6. -/
structure Params where
  /-- `PORT_W`, the width of the data port, an open parameter with `PORT_W >= 8` (R7). -/
  portW : Nat
  /-- `T_RESET_MS` (R9). -/
  tResetMs : Nat
  /-- `T_POLL_MS` (R10). -/
  tPollMs : Nat
  /-- `N_DUMMY` (R11). -/
  nDummy : Nat
  /-- `DUMMY_BYTE` (R12). -/
  dummyByte : Byte
  deriving DecidableEq, Repr

/-- The parameters at the reference values of the spec, for a port of the given width (R9 to R12). -/
def Params.reference (portW : Nat) : Params :=
  { portW := portW, tResetMs := 10, tPollMs := 1, nDummy := 1024, dummyByte := 0xFF }

/-- The six binding registers of the descriptor (R22 to R27). The host writes them before any command;
no command writes them (R28). -/
structure Bindings where
  dataPort : PortHandle
  dataOffset : Nat
  initPin : PinHandle
  programPin : PinHandle
  clockPin : PinHandle
  donePin : PinHandle
  deriving DecidableEq, Repr

/-- FREE VALUE: the level an input pin shows at the read numbered `n`, when the environment's script in
the state says nothing about that read (R37, U10: "a free draw, independent of history").
It has no body: no proof can see which level it is. Log entry 5. -/
opaque Config.freeLevel (n : Nat) : Level

end Sys2Proof
end

