-- ==== Sys2Proof/Syntax.lean ====
section
/-! DEFINITION. The command set: one constructor per row of spec/opcode_table.json (R80). -/

namespace Sys2Proof

/-- The four commands (R80). The descriptor is implicit: it is the machine the command is given to.
SEND carries its bytes; `length` is the length of the list (R82, D17). -/
inductive Instr where
  /-- INIT, `initialize(descriptor)` (R100). -/
  | init
  /-- START, `start_config(descriptor)` (R110). -/
  | start
  /-- SEND, `send_config(descriptor, data, length)` (R130). -/
  | send (data : List Byte)
  /-- FINISH, `finish_config(descriptor)` (R150). -/
  | finish
  deriving DecidableEq, Repr

end Sys2Proof
end

