-- ==== Sys2Proof/WellFormed.lean ====
section
/-! DEFINITION. The checks on data the host supplies: a command word has the form of its format, and a
descriptor is a supported one. Every term of `Instr` is well-formed: the command carries its list, so a
`length` that disagrees with the buffer cannot be written down (R82). -/

namespace Sys2Proof

/-- Format C0 has no operands (R81). -/
def CommandWord.noOperands (w : CommandWord) : Bool :=
  w.length == 0 && w.data.isEmpty

/-- Format C1: `data` is a sequence of exactly `length` bytes (R82). -/
def CommandWord.lengthMatches (w : CommandWord) : Bool :=
  w.length == w.data.length

/-- The command word has the form of the format its opcode selects (R81): C1 for `10`, C0 for the others. -/
def CommandWord.wf (w : CommandWord) : Bool :=
  if w.op = 2#2 then w.lengthMatches else w.noOperands

/-- `PORT_W >= 8` (R7). -/
def Params.portWide (p : Params) : Bool :=
  decide (8 ≤ p.portW)

/-- `0 <= data_offset <= PORT_W - 8` (R8, D7): the window lies inside the port. -/
def Bindings.offsetFits (b : Bindings) (p : Params) : Bool :=
  decide (b.dataOffset + 8 ≤ p.portW)

/-- The four pin handles are four distinct pins (R28, D18). -/
def Bindings.pinsDistinct (b : Bindings) : Bool :=
  decide [b.initPin, b.programPin, b.clockPin, b.donePin].Nodup

/-- The pin handle names a bit of the data window (R28, D18). -/
def Bindings.inWindow (b : Bindings) : PinHandle → Bool
  | .pin _ => false
  | .portBit port bit =>
      port == b.dataPort && decide (b.dataOffset ≤ bit) && decide (bit < b.dataOffset + 8)

/-- None of the pins is a bit of the data window (R28, D18). -/
def Bindings.pinsOutsideWindow (b : Bindings) : Bool :=
  [b.initPin, b.programPin, b.clockPin, b.donePin].all fun h => !b.inWindow h

/-- The descriptor is a supported configuration; the model refuses any other (R8, R28, R60, U5, U9). -/
def Bindings.supported (b : Bindings) (p : Params) : Bool :=
  p.portWide && b.offsetFits p && b.pinsDistinct && b.pinsOutsideWindow

end Sys2Proof
end

