-- ==== Sys2Proof/Decode.lean ====
section
/-! DEFINITION. Decoding a command word into a command, total, rejecting by name (R81, R82, R89), the
encoder, and the reading of a row of spec/opcode_table.json. -/

namespace Sys2Proof

/-- Why a command word is no command. -/
inductive DecodeError where
  /-- The opcode is INIT, START or FINISH (format C0) and operands follow it. Safe: it stops. -/
  | operandsOnC0
  /-- SEND with a `length` that is not the number of bytes given (R82, U11: refuse). Safe: it stops. -/
  | lengthMismatch
  deriving DecidableEq, Repr

/-- A command of format C0: the opcode only (R81). -/
def decodeC0 (i : Instr) (w : CommandWord) : Except DecodeError Instr :=
  if w.noOperands then .ok i else .error .operandsOnC0

/-- A command of format C1: opcode, `length`, then `length` bytes (R81, R82). -/
def decodeC1 (w : CommandWord) : Except DecodeError Instr :=
  if w.lengthMatches then .ok (.send w.data) else .error .lengthMismatch

/-- The decoder: `00` INIT, `01` START, `10` SEND, `11` FINISH (R81). All four opcodes are commands (R89). -/
def decode (w : CommandWord) : Except DecodeError Instr :=
  if w.op = 0#2 then decodeC0 .init w
  else if w.op = 1#2 then decodeC0 .start w
  else if w.op = 2#2 then decodeC1 w
  else decodeC0 .finish w

/-- The encoder, from the same table (R81, R82). -/
def encode : Instr → CommandWord
  | .init => { op := 0#2, length := 0, data := [] }
  | .start => { op := 1#2, length := 0, data := [] }
  | .send data => { op := 2#2, length := data.length, data := data }
  | .finish => { op := 3#2, length := 0, data := [] }

/-- The command word whose opcode is bits 1..0 of `w`, as spec/opcode_table.json numbers them, with operands of
zeros: `length` 0 and no data. A command word has no other numbered bits (R81), so `nbits` and the bits of `w` above
bit 1 select nothing. Log entry 2. -/
def tableWord (_nbits w : Nat) : CommandWord :=
  { op := BitVec.ofNat 2 w, length := 0, data := [] }

/-- What the decoder reads from a row of the opcode table. -/
def decodeTableWord (nbits w : Nat) : Option Instr :=
  match decode (tableWord nbits w) with
  | .ok i => some i
  | .error _ => none

end Sys2Proof
end

