-- ==== Sys2Proof/Machine/State.lean ====
section
/-! DEFINITION. The state of the controller with the adapter's latches and the environment's inputs, its value
after reset, and the reasons a step can stop. -/

namespace Sys2Proof.Machine

/-- The sequencer position (R30): `rest`, then the labels of START (R121), SEND (R139) and FINISH (R161). -/
inductive Seq where
  | rest
  | st1 | st2 | st3 | st4 | st5 | st5d | st6
  | sd0 | sda | sdb | sdc | sd9
  | fn0 | fn1 | fn2 | fna | fnb | fnc | fn3 | fn9
  deriving DecidableEq, Repr

/-- One call of an adapter primitive (R17). -/
inductive Event where
  /-- `W(p, l)`: `digital_write` (R55). -/
  | pinWrite (p : OutPin) (l : Level)
  /-- `R(p) = l`: `digital_read` that returned `l` (R56). -/
  | pinRead (p : InPin) (l : Level)
  /-- `P(m, v)`: `port_write` on the data port; mask and value are `PORT_W`-bit values written as numbers (R52). -/
  | portWrite (mask value : Nat)
  /-- `T(d)`: `delay_ms` with `d` in milliseconds (R57). -/
  | delay (ms : Nat)
  deriving DecidableEq, Repr

/-- What a command returns to the host (R83): a status, or for FINISH the value of `state`. -/
inductive Result where
  | status (v : Status)
  | state (v : Lifecycle)
  deriving DecidableEq, Repr

/-- The machine's state (R20 to R40). Plain data. -/
structure State where
  /-- The lifecycle register of the descriptor (R21). -/
  state : Lifecycle
  /-- The six binding registers of the descriptor (R22 to R28). -/
  bind : Bindings
  /-- The implementation parameters (R7, R9 to R12). -/
  params : Params
  /-- The sequencer position (R30). -/
  seq : Seq
  /-- The index of the next byte SEND clocks (R31). -/
  idx : Nat
  /-- FINISH's bounded counter (R32). -/
  cnt : Nat
  /-- The bytes of the SEND in progress (R33). -/
  buf : List Byte
  /-- The length of the SEND in progress (R33). -/
  len : Nat
  /-- The level last written to the clock pin, held by the adapter (R35). -/
  clkLevel : Level
  /-- The level last written to the program pin, held by the adapter (R35). -/
  progLevel : Level
  /-- The `PORT_W`-bit value last driven on the data port, held by the adapter (R36). -/
  port : Nat
  /-- The event history since reset, in issue order (R38). -/
  io : List Event
  /-- The results returned to the host, in order (R38, R83). Log entry 20. -/
  results : List Result
  /-- The environment's levels for the coming reads of `init`, next first (R37). Log entry 5. -/
  initIn : List Level
  /-- The environment's levels for the coming reads of `done`, next first (R37). Log entry 5. -/
  doneIn : List Level
  /-- The number of pin reads made: the index of the next free level. The model's own field. Log entry 5. -/
  draws : Nat
  /-- The command channel: the commands the host issues, one after the return of the other (R93, R94). Log entry 3. -/
  commands : List CommandWord
  /-- The reset input (R200, D12). Log entry 11. -/
  resetIn : Bool
  deriving DecidableEq, Repr

/-- Why the machine stops with a fault. The spec raises no exception (R170): both are raised only in states that
no run reaches (log entry 15). -/
inductive Fault where
  /-- Raised by SEND at `SDB` when `idx` is not an index of `buf`: "An index outside `0 .. len-1` is never read" (R58). Safe: it stops. -/
  | bufferIndexOutOfRange
  /-- Raised by FINISH at `FNC` when `cnt` is 0: "it is never decremented at 0" (R32). Safe: it stops. -/
  | counterUnderflow
  deriving DecidableEq, Repr

/-- Why a step has no meaning. -/
inductive Refusal where
  /-- Raised by an arm of `exec` whose instruction has no meaning yet; no arm raises it now. Safe: it stops. -/
  | notModelled (mnemonic : String)
  /-- Raised by every command presented while another command is in progress (R93, U1: refuse). Safe: it stops. -/
  | busy
  /-- Raised by every command on a descriptor that is not supported (R8, R28, U5, U9: refuse). Safe: it stops. -/
  | unsupportedDescriptor
  /-- Raised by the step when the command channel's next word is no command (R82, U11: refuse). Safe: it stops. -/
  | badCommand (e : DecodeError)
  /-- Raised by the step when the reset input is active while a command is in progress (R175, U12: refuse). Safe: it stops. -/
  | resetWhileBusy
  deriving DecidableEq, Repr

/-- The binding registers at reset: DESIGN CHOICE, the spec gives none ("they hold what the host put there", R40).
Four distinct pins, as R28 asks. Log entry 7. -/
def resetBindings : Bindings :=
  { dataPort := 0, dataOffset := 0, initPin := .pin 0, programPin := .pin 1, clockPin := .pin 2, donePin := .pin 3 }

/-- The machine right after reset (R40, R200). `state` is `Idle`, `seq` is `REST`, `io` is empty; the other values
are DESIGN CHOICES of the model: log entries 3, 5, 6, 7, 9, 10, 11 and 20. -/
def State.reset : State :=
  { state := .idle
    bind := resetBindings
    params := Params.reference 8
    seq := .rest
    idx := 0
    cnt := 0
    buf := []
    len := 0
    clkLevel := .low
    progLevel := .low
    port := 0
    io := []
    results := []
    initIn := []
    doneIn := []
    draws := 0
    commands := []
    resetIn := false }

end Sys2Proof.Machine
end

