-- ==== Sys2Proof/Machine/Operands.lean ====
section
/-! DEFINITION. Operand assembly (R88): the mask and the value of a data write, the masked merge into the port,
and the window read back from a port value. -/

namespace Sys2Proof.Machine

/-- `mask(data_offset) = 0xFF << data_offset`, a `PORT_W`-bit value (R51). -/
def dataMask (portW offset : Nat) : Nat :=
  (BitVec.ofNat portW 0xFF <<< offset).toNat

/-- `value(b, data_offset) = zext_PORT_W(b) << data_offset`, a `PORT_W`-bit value (R51, D8). -/
def dataValue (portW offset : Nat) (b : Byte) : Nat :=
  (b.setWidth portW <<< offset).toNat

/-- `port <- (port & ~m) | (v & m)` on `PORT_W`-bit values (R52). -/
def portMerge (portW port m v : Nat) : Nat :=
  ((BitVec.ofNat portW port &&& ~~~BitVec.ofNat portW m)
    ||| (BitVec.ofNat portW v &&& BitVec.ofNat portW m)).toNat

/-- The window of a port value: bits `data_offset+7 .. data_offset` (R69). -/
def window (offset port : Nat) : Byte :=
  BitVec.ofNat 8 (port >>> offset)

/-- `BufRead(i)`: byte `i` of the captured buffer, none outside `0 .. len-1` (R58). -/
def State.bufRead (s : State) (i : Nat) : Option Byte :=
  if i < s.len then s.buf[i]? else none

end Sys2Proof.Machine
end

