-- ==== Sys2Proof/Machine/Ops.lean ====
section
/-! DEFINITION. The shared operations: the adapter primitives of 20_memory.md section 2, the moves of the sequencer,
the refusals every command shares, and the reset input. There is no operation that takes an exception or returns
from one: "No command raises a synchronous exception" (R170), and "There is no return-from-trap operation" (R178). -/

namespace Sys2Proof.Machine

/-- Append one event to the history (R38). -/
def State.emit (s : State) (e : Event) : State :=
  { s with io := s.io ++ [e] }

/-- `seq <- L` (R16). -/
def State.goto (s : State) (l : Seq) : State :=
  { s with seq := l }

/-- Write the lifecycle register (R21). -/
def State.setState (s : State) (v : Lifecycle) : State :=
  { s with state := v }

/-- Write the byte index of SEND (R31). -/
def State.setIdx (s : State) (n : Nat) : State :=
  { s with idx := n }

/-- Write the counter of FINISH (R32). -/
def State.setCnt (s : State) (n : Nat) : State :=
  { s with cnt := n }

/-- `return v`: the value goes to the host and `seq` returns to `REST` (R16, R83). -/
def State.deliver (s : State) (r : Result) : State :=
  { s with results := s.results ++ [r], seq := .rest }

/-- The latch of an output pin takes a level (R35). -/
def State.setLevel (s : State) (p : OutPin) (l : Level) : State :=
  match p with
  | .clock => { s with clkLevel := l }
  | .program => { s with progLevel := l }

/-- `PinWrite(p, l)`: the pin's level becomes `l`, and the event is appended (R55). -/
def State.pinWrite (s : State) (p : OutPin) (l : Level) : State :=
  (s.setLevel p l).emit (.pinWrite p l)

/-- `PortWrite(m, v)`: the masked write of the data port (R52), and its event. -/
def State.portWrite (s : State) (m v : Nat) : State :=
  { s with port := portMerge s.params.portW s.port m v }.emit (.portWrite m v)

/-- `Delay(d)`: the event is all the model records of time (R57). -/
def State.delay (s : State) (ms : Nat) : State :=
  s.emit (.delay ms)

/-- The environment's levels for the coming reads of an input pin (R37). -/
def State.script (s : State) : InPin → List Level
  | .init => s.initIn
  | .done => s.doneIn

/-- The level the environment presents at the next read of `p`: the next of the script, or a free level where the
script has ended (R37, U10). -/
def State.readLevel (s : State) (p : InPin) : Level :=
  (s.script p).headD (Config.freeLevel s.draws)

/-- The environment moves on to the read after this one. -/
def State.consume (s : State) (p : InPin) : State :=
  match p with
  | .init => { s with initIn := s.initIn.tail, draws := s.draws + 1 }
  | .done => { s with doneIn := s.doneIn.tail, draws := s.draws + 1 }

/-- `PinRead(p)` but for the level it returns, which is `s.readLevel p`: the read changes nothing of the controller
and appends its event (R56). -/
def State.afterRead (s : State) (p : InPin) : State :=
  (s.consume p).emit (.pinRead p (s.readLevel p))

/-- Steps a and c of a byte sequence: the clock pin (R131). -/
def State.clock (s : State) (l : Level) : State :=
  s.pinWrite .clock l

/-- Step b of a byte sequence: the byte on the window, masked (R131, R51). -/
def State.driveByte (s : State) (b : Byte) : State :=
  s.portWrite (dataMask s.params.portW s.bind.dataOffset) (dataValue s.params.portW s.bind.dataOffset b)

/-- The machine's descriptor is a supported one (R8, R28). -/
def State.supported (s : State) : Bool :=
  s.bind.supported s.params

/-- A descriptor that is not supported is refused, whatever the command (R8, R28, R60; log entry 8). -/
def onSupported (s : State) (k : Host.Outcome State Fault Refusal) : Host.Outcome State Fault Refusal :=
  if s.supported then k else .refused .unsupportedDescriptor

/-- The command in progress, told from the sequencer position (R30): none at `REST`. -/
def State.inProgress (s : State) : Option Instr :=
  match s.seq with
  | .rest => none
  | .st1 | .st2 | .st3 | .st4 | .st5 | .st5d | .st6 => some .start
  | .sd0 | .sda | .sdb | .sdc | .sd9 => some (.send s.buf)
  | .fn0 | .fn1 | .fn2 | .fna | .fnb | .fnc | .fn3 | .fn9 => some .finish

/-- The commands still to come on the command channel (R93). -/
def State.withCommands (s : State) (cs : List CommandWord) : State :=
  { s with commands := cs }

/-- The effect of the reset input at `REST`: `state <- Idle`, `seq <- REST`, no event (R200); the event history since
reset is empty (R38, R40); the input is taken. Log entry 11. -/
def State.afterReset (s : State) : State :=
  { s with state := .idle, seq := .rest, io := [], resetIn := false }

/-- The reset input: defined at `REST` only, refused while a command is in progress (R175, R200, U12). -/
def resetInput (s : State) : Host.Outcome State Fault Refusal :=
  if s.seq = .rest then .next s.afterReset else .refused .resetWhileBusy

end Sys2Proof.Machine
end

