-- ==== Sys2Proof/Machine/Finish.lean ====
section
/-! DEFINITION. FINISH (43_finish_config.md), the completion poller. -/

namespace Sys2Proof.Machine

/-- The re-read of `done` and the write it alone decides (R154). -/
def State.reread (s : State) : State :=
  let t := s.afterRead .done
  if s.readLevel .done = .high then t.setState .done else t

/-- FINISH, one row of its step table (R161): its acceptance at `REST`, then the row `seq` is at. The counter is
tested before the pin (R153, D10). -/
def execFinish (s : State) : Host.Outcome State Fault Refusal :=
  onSupported s <|
    match s.seq with
    | .rest => .next (s.goto .fn0)
    | .fn0 => .next ((s.setCnt s.params.nDummy).goto .fn1)
    | .fn1 => .next (s.goto (if s.cnt = 0 then .fn3 else .fn2))
    | .fn2 => .next ((s.afterRead .done).goto (if s.readLevel .done = .high then .fn3 else .fna))
    | .fna => .next ((s.clock .low).goto .fnb)
    | .fnb => .next ((s.driveByte s.params.dummyByte).goto .fnc)
    | .fnc =>
        if s.cnt = 0 then .fault .counterUnderflow
        else .next (((s.clock .high).setCnt (s.cnt - 1)).goto .fn1)
    | .fn3 => .next (s.reread.goto .fn9)
    | .fn9 => .next (s.deliver (.state s.state))
    | _ => .refused .busy

end Sys2Proof.Machine
end

