-- ==== Sys2Proof/Machine/Initialize.lean ====
section
/-! DEFINITION. INIT (40_initialize.md). -/

namespace Sys2Proof.Machine

/-- INIT: one step from `REST` to `REST`, "No I/O performed" (R100, R103). In every state of the lifecycle (R101). -/
def execInit (s : State) : Host.Outcome State Fault Refusal :=
  onSupported s <|
    match s.seq with
    | .rest => .next ((s.setState .idle).deliver (.status .ok))
    | _ => .refused .busy

end Sys2Proof.Machine
end

