-- ==== Sys2Proof/Machine/Send.lean ====
section
/-! DEFINITION. SEND (42_send_config.md), the byte-stream bus writer. -/

namespace Sys2Proof.Machine

/-- Accepting SEND captures its operands (R139, R33). -/
def State.capture (s : State) (data : List Byte) : State :=
  { s with buf := data, len := data.length, idx := 0, seq := .sd0 }

/-- The row of SEND's step table that `seq` is at (R139). -/
def sendRow (s : State) : Host.Outcome State Fault Refusal :=
  match s.seq with
  | .sd0 => .next (s.goto (if s.idx < s.len then .sda else .sd9))
  | .sda => .next ((s.clock .low).goto .sdb)
  | .sdb =>
      match s.bufRead s.idx with
      | some b => .next ((s.driveByte b).goto .sdc)
      | none => .fault .bufferIndexOutOfRange
  | .sdc => .next (((s.clock .high).setIdx (s.idx + 1)).goto .sd0)
  | .sd9 => .next (s.deliver (.status .ok))
  | _ => .refused .busy

/-- SEND, one row of its step table (R139): its acceptance at `REST`, then the row `seq` is at while the SEND in
progress is this one. It neither reads nor writes `state` (R132). A SEND of other data while one is in progress
is a second command (R93, U1). -/
def execSend (data : List Byte) (s : State) : Host.Outcome State Fault Refusal :=
  onSupported s <|
    if s.seq = .rest then .next (s.capture data)
    else if s.buf = data then sendRow s
    else .refused .busy

end Sys2Proof.Machine
end

