-- ==== Sys2Proof/Machine/Start.lean ====
section
/-! DEFINITION. START (41_start_config.md), the reset and ready-handshake sequencer. -/

namespace Sys2Proof.Machine

/-- START, one row of its step table (R121): its acceptance at `REST`, then the row `seq` is at. START never reads
`state` (R118). The ready poll has no bound (R115, R122): `ST5` and `ST5D` alternate while the pin reads low. -/
def execStart (s : State) : Host.Outcome State Fault Refusal :=
  onSupported s <|
    match s.seq with
    | .rest => .next (s.goto .st1)
    | .st1 => .next ((s.pinWrite .clock .low).goto .st2)
    | .st2 => .next ((s.pinWrite .program .low).goto .st3)
    | .st3 => .next ((s.delay s.params.tResetMs).goto .st4)
    | .st4 => .next ((s.pinWrite .program .high).goto .st5)
    | .st5 => .next ((s.afterRead .init).goto (if s.readLevel .init = .high then .st6 else .st5d))
    | .st5d => .next ((s.delay s.params.tPollMs).goto .st5)
    | .st6 => .next ((s.setState .configuring).deliver (.status .ok))
    | _ => .refused .busy

end Sys2Proof.Machine
end

