-- ==== Sys2Proof/Machine/Dispatch.lean ====
section
/-! DEFINITION. `exec`: one arm per constructor of `Instr`. `exec i s` is one step of command `i`: its acceptance at
`REST`, or the row of its step table that `seq` is at (R93, R103, R121, R139, R161). -/

namespace Sys2Proof.Machine

def exec (i : Instr) (s : State) : Host.Outcome State Fault Refusal :=
  match i with
  | .init => Sys2Proof.Machine.execInit s
  | .start => Sys2Proof.Machine.execStart s
  | .send data => Sys2Proof.Machine.execSend data s
  | .finish => Sys2Proof.Machine.execFinish s

end Sys2Proof.Machine
end

