-- ==== Sys2Proof/Machine/Fetch.lean ====
section
/-! DEFINITION. Taking the next command from the command channel, and placing one there for the very next step. -/

namespace Sys2Proof.Machine

/-- What the controller finds at `REST` on the command channel (R93, R94). -/
inductive Fetched where
  /-- The host has issued no command (R216). -/
  | none
  /-- The word presented is no command (R82). -/
  | bad (e : DecodeError)
  /-- A command, and the state with it taken from the channel. -/
  | command (i : Instr) (s : State)
  deriving DecidableEq, Repr

/-- The next word of the command channel, decoded. -/
def fetch (s : State) : Fetched :=
  match s.commands with
  | [] => .none
  | w :: rest =>
      match decode w with
      | .error e => .bad e
      | .ok i => .command i (s.withCommands rest)

/-- The command word put first on the command channel of a machine at `REST` with the reset input inactive, so that
the very next step takes it. Log entry 3. -/
def State.present (s : State) (w : CommandWord) : State :=
  { s with seq := .rest, resetIn := false, commands := w :: s.commands }

end Sys2Proof.Machine
end

