-- ==== Sys2Proof/Machine/Step.lean ====
section
/-! DEFINITION. One step of the machine: the reset input if it is active; else the next row of the command in
progress; else, at `REST`, the acceptance of the next command of the command channel (R93). With no command to take,
the controller rests (R216). -/

namespace Sys2Proof.Machine

def step (s : State) : Host.Outcome State Fault Refusal :=
  if s.resetIn then resetInput s
  else
    match s.inProgress with
    | some i => exec i s
    | none =>
        match fetch s with
        | .none => .next s
        | .bad e => .refused (.badCommand e)
        | .command i t => exec i t

/-- The state in which the very next step takes the command of an opcode-table row. Log entry 3. -/
def State.withFetchWord (s : State) (nbits w : Nat) : State :=
  s.present (tableWord nbits w)

end Sys2Proof.Machine
end

