-- ==== Sys2Proof/Machine/Flags.lean ====
section
/-! DEFINITION. The hardware has no flags and no condition codes (R34): the only status the host observes is
each command's result. Here are the codes of that result, of `state` and of a level (R84 to R86; D3 to D5). -/

namespace Sys2Proof.Machine

/-- The two-bit state code (R84). -/
def lifecycleCode : Lifecycle → BitVec 2
  | .idle => 0#2
  | .configuring => 1#2
  | .done => 2#2

/-- The state a code stands for; 3 is reserved (R84). -/
def lifecycleOfCode (c : BitVec 2) : Option Lifecycle :=
  if c = 0#2 then some .idle
  else if c = 1#2 then some .configuring
  else if c = 2#2 then some .done
  else none

/-- The one-bit level code (R85). -/
def levelCode : Level → BitVec 1
  | .low => 0#1
  | .high => 1#1

/-- The status code (R86). -/
def statusCode : Status → Nat
  | .ok => 0

/-- The code of a command's result (R83, R84, R86). -/
def resultCode : Result → Nat
  | .status v => statusCode v
  | .state v => (lifecycleCode v).toNat

end Sys2Proof.Machine
end

