-- ==== Sys2Proof/Machine/Observe.lean ====
section
/-! DEFINITION. What is seen of the machine from outside: runs of several steps, the traces of the commands as the
spec writes them (R120, R138, R160), and the bytes the target device samples (R69). No step uses these. -/

namespace Sys2Proof.Machine

/-- `n` steps, stopping at the first fault or refusal. -/
def steps : Nat → State → Host.Outcome State Fault Refusal
  | 0, s => .next s
  | n + 1, s =>
      match step s with
      | .next t => steps n t
      | .fault r => .fault r
      | .refused r => .refused r

/-- A change of the next state, where there is one. -/
def mapNext (f : State → State) : Host.Outcome State Fault Refusal → Host.Outcome State Fault Refusal
  | .next t => .next (f t)
  | .fault r => .fault r
  | .refused r => .refused r

/-- The trace of `SendByte(b)` (R131). -/
def byteTrace (p : Params) (d : Bindings) (b : Byte) : List Event :=
  [.pinWrite .clock .low,
   .portWrite (dataMask p.portW d.dataOffset) (dataValue p.portW d.dataOffset b),
   .pinWrite .clock .high]

/-- `trace_START(k)`: `k` LOW reads of `init`, then a HIGH one (R120). -/
def startTrace (p : Params) (k : Nat) : List Event :=
  [.pinWrite .clock .low, .pinWrite .program .low, .delay p.tResetMs, .pinWrite .program .high]
    ++ (List.replicate k [.pinRead .init .low, .delay p.tPollMs]).flatten
    ++ [.pinRead .init .high]

/-- `trace_SEND(data)` (R138). -/
def sendTrace (p : Params) (d : Bindings) (data : List Byte) : List Event :=
  data.flatMap (byteTrace p d)

/-- `([R(done)=0] ++ D) * n`: `n` LOW reads of `done`, each with its dummy byte (R160). -/
def pollTrace (p : Params) (d : Bindings) (n : Nat) : List Event :=
  (List.replicate n (.pinRead .done .low :: byteTrace p d p.dummyByte)).flatten

/-- The port after the bytes of `data` were written to the window, one after the other: the window holds the last,
and nothing changed where there was none (R138). -/
def portAfter (p : Params) (d : Bindings) (port : Nat) (data : List Byte) : Nat :=
  match data.getLast? with
  | none => port
  | some b => portMerge p.portW port (dataMask p.portW d.dataOffset) (dataValue p.portW d.dataOffset b)

/-- The clock level after the bytes of `data` were clocked: HIGH, or as before where there was none (R35). -/
def clockAfter (clk : Level) (data : List Byte) : Level :=
  if data = [] then clk else .high

/-- The delivered stream of a trace that begins with the clock at `clk` and the port at `port`: the window at each
rising edge, a `W(clock, 1)` issued while the clock is LOW (R69). -/
def delivered (p : Params) (d : Bindings) (clk : Level) (port : Nat) : List Event → List Byte
  | [] => []
  | .pinWrite .clock l :: es =>
      if clk = .low ∧ l = .high then window d.dataOffset port :: delivered p d l port es
      else delivered p d l port es
  | .portWrite m v :: es => delivered p d clk (portMerge p.portW port m v) es
  | _ :: es => delivered p d clk port es

/-- The level the last write of a trace to the pin left, if the trace writes it at all (R35). -/
def lastLevel (p : OutPin) (io : List Event) : Option Level :=
  io.reverse.findSome? fun e =>
    match e with
    | .pinWrite q l => if q = p then some l else none
    | _ => none

/-- A `PortWrite` event. -/
def Event.isPortWrite : Event → Bool
  | .portWrite _ _ => true
  | _ => false

/-- A read of `done`. -/
def Event.isDoneRead : Event → Bool
  | .pinRead .done _ => true
  | _ => false

/-- A write of the clock pin. -/
def Event.isClockWrite : Event → Bool
  | .pinWrite .clock _ => true
  | _ => false

end Sys2Proof.Machine
end

