-- ==== Sys2Proof/Safety.lean ====
section
/-! DEFINITION. The terms claims use: the invariant of the machine, a command offered by the host, and what two
states have in common but for the lifecycle register. -/

namespace Sys2Proof.Machine

/-- What holds in every state a run from reset reaches, and every step keeps. -/
structure State.Inv (s : State) : Prop where
  /-- The port holds a `PORT_W`-bit value (R36). -/
  portBits : s.port < 2 ^ s.params.portW
  /-- A command runs on a supported descriptor only (R28). -/
  busySupported : s.seq ≠ .rest → s.supported = true
  /-- `len` is the number of bytes in `buf`, and `idx` is in `0 .. len` (R31, R33). -/
  sendLength : s.seq ∈ [Seq.sd0, .sda, .sdb, .sdc, .sd9] → s.len = s.buf.length ∧ s.idx ≤ s.len
  /-- A byte sequence of SEND is under way only for an index inside the buffer (R58). -/
  sendIndex : s.seq ∈ [Seq.sda, .sdb, .sdc] → s.idx < s.len
  /-- `cnt` is in `0 .. N_DUMMY` (R32). -/
  finishCount : s.seq ∈ [Seq.fn1, .fn2, .fna, .fnb, .fnc, .fn3] → s.cnt ≤ s.params.nDummy
  /-- The pin is polled and a dummy byte clocked only while budget is left (R151, R153). -/
  finishBudget : s.seq ∈ [Seq.fn2, .fna, .fnb, .fnc] → 0 < s.cnt
  /-- The clock is LOW from step 1 of START to its end (R205). -/
  startClockLow : s.seq ∈ [Seq.st2, .st3, .st4, .st5, .st5d, .st6] → s.clkLevel = .low
  /-- The program pin is LOW for the whole settle delay (R204). -/
  startProgramLow : s.seq ∈ [Seq.st3, .st4] → s.progLevel = .low
  /-- The program pin is released while START polls (R114). -/
  startProgramHigh : s.seq ∈ [Seq.st5, .st5d, .st6] → s.progLevel = .high
  /-- The clock is LOW while the byte is written and until it rises (R67, R207). -/
  byteClockLow : s.seq ∈ [Seq.sdb, .sdc, .fnb, .fnc] → s.clkLevel = .low
  /-- When SEND drives the clock HIGH, the window holds the byte at `idx` (R67, R207). -/
  sendWindow : s.seq = .sdc → s.buf[s.idx]? = some (window s.bind.dataOffset s.port)
  /-- When FINISH drives the clock HIGH, the window holds the dummy byte (R152). -/
  finishWindow : s.seq = .fnc → window s.bind.dataOffset s.port = s.params.dummyByte
  /-- The clock latch holds the level last written since reset (R35). -/
  clockLatch : (lastLevel .clock s.io).getD s.clkLevel = s.clkLevel
  /-- The program latch holds the level last written since reset (R35). -/
  programLatch : (lastLevel .program s.io).getD s.progLevel = s.progLevel

/-- The host offers command `i` to a controller at `REST` with a supported descriptor, and then the commands `cs`. -/
abbrev State.Offers (s : State) (i : Instr) (cs : List CommandWord) : Prop :=
  s.seq = .rest ∧ s.resetIn = false ∧ s.supported = true ∧ s.commands = encode i :: cs

/-- The state with the lifecycle register out of sight, and with it the values FINISH returned. -/
def State.hideLifecycle (s : State) : State :=
  { s with
    state := .idle
    results := s.results.map fun r =>
      match r with
      | .state _ => .state .idle
      | .status v => .status v }

end Sys2Proof.Machine
end

