-- ==== Sys2Proof/Certificates/Slice0/Obligations.lean ====
section
/-! DEFINITION. The statements for the provers. Each docstring names the rules of spec/ its statement formalises.
An equation of a whole next state is also its frame: every field the equation does not name is unchanged. -/

open Sys2Proof Sys2Proof.Machine

/-! ### Encoding -/

/-- R81, R82 in the packet form of the command channel (the model's choice, log entry 2): a word decodes to a command
exactly when it is that command's encoding, with every operand at every value. -/
def Obligations.WordDecodesExactlyToItsCommand : Prop :=
  ∀ (w : CommandWord) (i : Instr), decode w = .ok i ↔ encode i = w

/-- R81 (the codes are the spec's decision D2): words written out from the table, and vector B5. -/
def Obligations.CommandCodesDecodeAsTabled : Prop :=
  decode ⟨0b00#2, 0, []⟩ = .ok .init ∧
  decode ⟨0b01#2, 0, []⟩ = .ok .start ∧
  decode ⟨0b10#2, 0, []⟩ = .ok (.send []) ∧
  decode ⟨0b10#2, 3, [0x01, 0xFF, 0x00]⟩ = .ok (.send [0x01, 0xFF, 0x00]) ∧
  decode ⟨0b11#2, 0, []⟩ = .ok .finish

/-- R81, R82, U11: a word that is no command is rejected under the name of what is wrong with it. The names and the
packet form are the model's choice (log entries 2 and 14). -/
def Obligations.MalformedWordsRejectedByName : Prop :=
  ∀ (w : CommandWord) (e : DecodeError), decode w = .error e ↔
    (e = .operandsOnC0 ∧ w.op ≠ 0b10#2 ∧ ¬(w.length = 0 ∧ w.data = [])) ∨
    (e = .lengthMismatch ∧ w.op = 0b10#2 ∧ w.length ≠ w.data.length)

/-- R89: "All four values of `op[1:0]` are commands, so there is no illegal, reserved, hint or custom opcode and
decoding is total": read from the opcode table's numbering (the reading of a table word is log entry 2). -/
def Obligations.EveryTableOpcodeIsACommand : Prop :=
  ∀ nbits w : Nat, decodeTableWord nbits w =
    if w % 4 = 0 then some .init
    else if w % 4 = 1 then some .start
    else if w % 4 = 2 then some (.send [])
    else some .finish

/-- R84 to R86 (the codes are the spec's decisions D3 to D5): state codes 0, 1, 2 and no fourth, levels 0 and 1, OK 0. -/
def Obligations.CodesAreAsTabled : Prop :=
  (∀ v : Lifecycle, lifecycleOfCode (lifecycleCode v) = some v) ∧
  (∀ c : BitVec 2, lifecycleOfCode c = none ↔ c = 3#2) ∧
  resultCode (.state .idle) = 0 ∧ resultCode (.state .configuring) = 1 ∧ resultCode (.state .done) = 2 ∧
  resultCode (.status .ok) = 0 ∧ levelCode .low = 0#1 ∧ levelCode .high = 1#1

/-! ### The step -/

/-- R93, R94: at `REST` the step takes the next word of the command channel, and runs the command it decodes to on the
state with that word taken. -/
def Obligations.StepRunsNextCommand : Prop :=
  ∀ (s : State) (w : CommandWord) (cs : List CommandWord) (i : Instr),
    s.seq = .rest → s.resetIn = false → s.commands = w :: cs → decode w = .ok i →
    step s = exec i { s with commands := cs }

/-- R30: while a command is in progress the step runs the next row of its table; none is in progress at `REST` only. -/
def Obligations.StepContinuesCommandInProgress : Prop :=
  ∀ s : State,
    (s.inProgress = none ↔ s.seq = .rest) ∧
    (∀ i, s.resetIn = false → s.inProgress = some i → step s = exec i s)

/-- With no command to take the controller rests (R216; that the machine rests unchanged is the model's choice, log
entry 4). Every word that does not decode is refused as `badCommand` with the decoder's name: this clause is the model's
choice (log entry 14), a C0 opcode with operands included. R82 and U11 speak of the `length` of SEND only. -/
def Obligations.StepRestsOrRefusesTheWord : Prop :=
  ∀ s : State, s.seq = .rest → s.resetIn = false →
    (s.commands = [] → step s = .next s) ∧
    (∀ w cs e, s.commands = w :: cs → decode w = .error e → step s = .refused (.badCommand e))

/-- R200, R40, R175 (the spec's decision D12; the reset input is the model's, log entry 11): at `REST` the reset input
writes `Idle` and empties the history, and changes nothing else; while a command is in progress it is refused. -/
def Obligations.ResetInputActsAtRestOnly : Prop :=
  ∀ s : State, s.resetIn = true →
    (s.seq = .rest → step s = .next { s with state := .idle, io := [], resetIn := false }) ∧
    (s.seq ≠ .rest → step s = .refused .resetWhileBusy)

/-- R40: after reset `state` is `Idle`, `seq` is `REST` and `io` is empty. -/
def Obligations.ResetLeavesIdleAtRest : Prop :=
  State.reset.state = .idle ∧ State.reset.seq = .rest ∧ State.reset.io = []

/-! ### Refusals -/

/-- R93, U1: a command presented while another is in progress is refused. -/
def Obligations.SecondCommandRefused : Prop :=
  ∀ (s : State) (i j : Instr), s.supported = true → s.inProgress = some i → j ≠ i → exec j s = .refused .busy

/-- R8, R28, R60, U5, U9 (that the refusal is of every command is the model's choice, log entry 8): the machine runs a
command on a supported descriptor only, and what makes one supported. -/
def Obligations.UnsupportedDescriptorRefused : Prop :=
  ∀ s : State,
    (s.supported = true ↔
      8 ≤ s.params.portW ∧ s.bind.dataOffset + 8 ≤ s.params.portW ∧
      [s.bind.initPin, s.bind.programPin, s.bind.clockPin, s.bind.donePin].Nodup ∧
      ∀ h ∈ [s.bind.initPin, s.bind.programPin, s.bind.clockPin, s.bind.donePin], ∀ bit,
        s.bind.dataOffset ≤ bit → bit < s.bind.dataOffset + 8 → h ≠ .portBit s.bind.dataPort bit) ∧
    (s.supported = false → ∀ i, exec i s = .refused .unsupportedDescriptor)

/-! ### The port -/

/-- R52: "leaving other bits untouched": the masked merge bit by bit; bits of the value outside the mask have no
effect; with the mask and the value of R51 the window becomes the byte and every other bit is unchanged. -/
def Obligations.PortWriteMergesMaskedBits : Prop :=
  (∀ (s : State) (m v : Nat),
    s.portWrite m v = { s with
      port := portMerge s.params.portW s.port m v
      io := s.io ++ [.portWrite m v] }) ∧
  (∀ w p m v i : Nat, i < w →
    (portMerge w p m v).testBit i = if m.testBit i then v.testBit i else p.testBit i) ∧
  (∀ w p m v : Nat, portMerge w p m (v &&& m) = portMerge w p m v ∧ portMerge w p m v < 2 ^ w) ∧
  (∀ (w off p : Nat) (b : Byte), off + 8 ≤ w →
    window off (portMerge w p (dataMask w off) (dataValue w off b)) = b ∧
    ∀ i, i < w → (i < off ∨ off + 8 ≤ i) →
      (portMerge w p (dataMask w off) (dataValue w off b)).testBit i = p.testBit i)

/-- R51 (zeros outside the window are the spec's decision D8): at a supported offset the mask is `0xFF << data_offset`
and the value `byte << data_offset`, with nothing shifted out; the mask covers exactly the window. -/
def Obligations.MaskAndValueAreShiftsIntoTheWindow : Prop :=
  ∀ (w off : Nat) (b : Byte), off + 8 ≤ w →
    dataMask w off = 0xFF <<< off ∧
    dataValue w off b = b.toNat <<< off ∧
    ∀ i, (dataMask w off).testBit i = true ↔ off ≤ i ∧ i < off + 8

/-- R50: "Bit `i` of a data byte ... is driven on port bit `data_offset + i`", with no reversal, swap or inversion. -/
def Obligations.DataBitDrivenOnOffsetBit : Prop :=
  ∀ (s : State) (b : Byte) (i : Nat), s.supported = true → i < 8 →
    (s.driveByte b).port.testBit (s.bind.dataOffset + i) = b.getLsbD i

/-- R42, R53: no step of any command disturbs a port bit outside the window, and the mask of every `PortWrite` covers
exactly the eight bits of the window. -/
def Obligations.PortBitsOutsideTheWindowUndisturbed : Prop :=
  ∀ s t : State, step s = .next t →
    (∀ i, i < s.params.portW → (i < s.bind.dataOffset ∨ s.bind.dataOffset + 8 ≤ i) →
      t.port.testBit i = s.port.testBit i) ∧
    (∀ m v, t.io = s.io ++ [.portWrite m v] →
      ∀ i, m.testBit i = true ↔ s.bind.dataOffset ≤ i ∧ i < s.bind.dataOffset + 8)

/-! ### INIT -/

/-- R100: INIT at `REST`, whatever `state` was: `state` is `Idle` and the result `OK`; nothing else changes and no event
is issued. Its encoding is the opcode `00` with no operand. -/
def Obligations.InitWritesIdleAndNothingElse : Prop :=
  encode .init = ⟨0b00#2, 0, []⟩ ∧
  ∀ s : State, s.supported = true → s.seq = .rest →
    exec .init s = .next { s with state := .idle, results := s.results ++ [.status .ok] }

/-! ### START -/

/-- R121 (the rows are the spec's decision D14), R110 to R116: START's acceptance and the rows of its table, each as the
whole next state. -/
def Obligations.StartRowsFollowTheTable : Prop :=
  ∀ s : State, s.supported = true →
    (s.seq = .rest → exec .start s = .next { s with seq := .st1 }) ∧
    (s.seq = .st1 → exec .start s = .next { s with
      clkLevel := .low, io := s.io ++ [.pinWrite .clock .low], seq := .st2 }) ∧
    (s.seq = .st2 → exec .start s = .next { s with
      progLevel := .low, io := s.io ++ [.pinWrite .program .low], seq := .st3 }) ∧
    (s.seq = .st3 → exec .start s = .next { s with
      io := s.io ++ [.delay s.params.tResetMs], seq := .st4 }) ∧
    (s.seq = .st4 → exec .start s = .next { s with
      progLevel := .high, io := s.io ++ [.pinWrite .program .high], seq := .st5 }) ∧
    (s.seq = .st5 → exec .start s = .next { s with
      initIn := s.initIn.tail, draws := s.draws + 1
      io := s.io ++ [.pinRead .init (s.readLevel .init)]
      seq := if s.readLevel .init = .high then .st6 else .st5d }) ∧
    (s.seq = .st5d → exec .start s = .next { s with
      io := s.io ++ [.delay s.params.tPollMs], seq := .st5 }) ∧
    (s.seq = .st6 → exec .start s = .next { s with
      state := .configuring, results := s.results ++ [.status .ok], seq := .rest })

/-- R117, and R120 whose trace it is: a START whose reads of `init` return LOW `k` times and then HIGH issues three pin
writes, one 10 ms hold, `k + 1` reads and `k` poll delays, and ends with the clock LOW, the program pin HIGH, the port
unchanged and the result `OK`. At the reference parameters the hold is 10 ms and each poll delay 1 ms. `k = 0` is
R119. -/
def Obligations.StartRunsToReady : Prop :=
  ∀ (s : State) (k : Nat) (later : List Level) (cs : List CommandWord),
    s.Offers .start cs → s.initIn = List.replicate k .low ++ .high :: later →
    steps (7 + 2 * k) s = .next { s with
      commands := cs
      state := .configuring
      clkLevel := .low
      progLevel := .high
      initIn := later
      draws := s.draws + (k + 1)
      io := s.io ++ startTrace s.params k
      results := s.results ++ [.status .ok] } ∧
    (s.params = Params.reference s.params.portW →
      startTrace s.params k =
        [.pinWrite .clock .low, .pinWrite .program .low, .delay 10, .pinWrite .program .high]
          ++ (List.replicate k [.pinRead .init .low, .delay 1]).flatten ++ [.pinRead .init .high])

/-- R171, R122: while the reads of `init` return LOW, START stays in progress: an infinite execution, not a fault and
not a stuck state. Every finite part of it, for every `k`: after `n` steps, `n <= 2k + 5`, with `k` LOW reads at hand,
the command has not returned, `state` is what it was, no result was delivered, the host's next command was not taken,
and the trace is the first `n - 1` events. -/
def Obligations.StartHangsWhileInitReadsLow : Prop :=
  ∀ (s : State) (k n : Nat) (later : List Level) (cs : List CommandWord),
    s.Offers .start cs → s.initIn = List.replicate k .low ++ later → 0 < n → n ≤ 2 * k + 5 →
    ∃ t, steps n s = .next t ∧ t.inProgress = some .start ∧ t.state = s.state ∧ t.results = s.results ∧
      t.commands = cs ∧ t.io = s.io ++ (startTrace s.params k).take (n - 1)

/-- R116: START writes `state` in its last step only, and that step is reached only from a read of `init` that returned
HIGH; until then `state` has the value it had. -/
def Obligations.StartWritesStateAfterTheReadyPollOnly : Prop :=
  ∀ s t : State, s.inProgress = some .start → step s = .next t →
    (s.seq ≠ .st6 → t.state = s.state ∧ t.seq ≠ .rest) ∧
    (s.seq = .st6 → t.state = .configuring ∧ t.seq = .rest) ∧
    (t.seq = .st6 → s.seq = .st5 ∧ s.readLevel .init = .high)

/-! ### SEND -/

/-- R139 (the rows are the spec's decision D14), R130, R131: SEND's acceptance and the rows of its table, each as the
whole next state. -/
def Obligations.SendRowsFollowTheTable : Prop :=
  ∀ (s : State) (data : List Byte), s.supported = true →
    (s.seq = .rest → exec (.send data) s = .next { s with
      buf := data, len := data.length, idx := 0, seq := .sd0 }) ∧
    (s.buf = data →
      (s.seq = .sd0 → exec (.send data) s = .next { s with seq := if s.idx < s.len then .sda else .sd9 }) ∧
      (s.seq = .sda → exec (.send data) s = .next { s with
        clkLevel := .low, io := s.io ++ [.pinWrite .clock .low], seq := .sdb }) ∧
      (∀ b, s.seq = .sdb → s.idx < s.len → data[s.idx]? = some b → exec (.send data) s = .next { s with
        port := portMerge s.params.portW s.port (dataMask s.params.portW s.bind.dataOffset)
          (dataValue s.params.portW s.bind.dataOffset b)
        io := s.io ++ [.portWrite (dataMask s.params.portW s.bind.dataOffset)
          (dataValue s.params.portW s.bind.dataOffset b)]
        seq := .sdc }) ∧
      (s.seq = .sdc → exec (.send data) s = .next { s with
        clkLevel := .high, io := s.io ++ [.pinWrite .clock .high], idx := s.idx + 1, seq := .sd0 }) ∧
      (s.seq = .sd9 → exec (.send data) s = .next { s with
        results := s.results ++ [.status .ok], seq := .rest }))

/-- R130, R131 (that `idx`, `buf` and `len` keep their last values between commands is the model's, log entry 10): SEND
of any list of bytes, the empty one included, runs to its end in `4 * length + 2` steps after its
acceptance, clocks every byte once, in order, by the three events of `SendByte`, and returns `OK`; `state` is unchanged
and no pin is read. Its encoding is the opcode `10`, then `length`, then the bytes. -/
def Obligations.SendRunsToItsEnd : Prop :=
  ∀ (s : State) (data : List Byte) (cs : List CommandWord),
    encode (.send data) = ⟨0b10#2, data.length, data⟩ ∧
    (s.Offers (.send data) cs →
      steps (4 * data.length + 3) s = .next { s with
        commands := cs
        buf := data
        len := data.length
        idx := data.length
        clkLevel := clockAfter s.clkLevel data
        port := portAfter s.params s.bind s.port data
        io := s.io ++ sendTrace s.params s.bind data
        results := s.results ++ [.status .ok] })

/-- R136: `length` bytes give exactly `length` clock low/high pairs and exactly `length` port writes, one rising edge per
byte, and the byte delivered by the `i`-th rising edge is `data[i]`, whatever the levels were before. -/
def Obligations.SendDeliversItsBytesInOrder : Prop :=
  ∀ (s : State) (data : List Byte) (cs : List CommandWord), s.Offers (.send data) cs →
    ∃ t tr, steps (4 * data.length + 3) s = .next t ∧ t.seq = .rest ∧ t.io = s.io ++ tr ∧
      delivered s.params s.bind s.clkLevel s.port tr = data ∧
      tr.count (.pinWrite .clock .low) = data.length ∧
      tr.count (.pinWrite .clock .high) = data.length ∧
      tr.countP Event.isPortWrite = data.length ∧
      tr.length = 3 * data.length

/-- R134 (a consequence the spec derives): how a bitstream is cut into chunks cannot be seen on the pins: two SENDs and
one SEND of both buffers leave the same events, levels, port and lifecycle. -/
def Obligations.ChunkingCannotBeSeenOnThePins : Prop :=
  ∀ (s : State) (d1 d2 : List Byte) (cs : List CommandWord),
    s.Offers (.send d1) (encode (.send d2) :: cs) →
    ∃ t u, steps (4 * d1.length + 3 + (4 * d2.length + 3)) s = .next t ∧
      steps (4 * (d1 ++ d2).length + 3) { s with commands := encode (.send (d1 ++ d2)) :: cs } = .next u ∧
      t.seq = .rest ∧ u.seq = .rest ∧ t.commands = cs ∧ u.commands = cs ∧
      t.io = u.io ∧ t.clkLevel = u.clkLevel ∧ t.progLevel = u.progLevel ∧ t.port = u.port ∧ t.state = u.state

/-- R132: SEND neither reads nor writes `state`: at every row, with any value in `state`, it does what it does with any
other, and leaves that value. -/
def Obligations.SendNeitherReadsNorWritesState : Prop :=
  ∀ (s : State) (data : List Byte) (x : Lifecycle),
    exec (.send data) { s with state := x } = mapNext (fun t => { t with state := x }) (exec (.send data) s) ∧
    ∀ t, exec (.send data) s = .next t → t.state = s.state

/-! ### FINISH -/

/-- R161 (the rows are the spec's decision D14; that `FN1` tests the counter before `FN2` reads the pin is its decision
D10, log entry 19), R150 to R155: FINISH's acceptance and the rows of its table, each as the
whole next state. The row `FNC` is taken with `cnt > 0`, as R151 says. -/
def Obligations.FinishRowsFollowTheTable : Prop :=
  ∀ s : State, s.supported = true →
    (s.seq = .rest → exec .finish s = .next { s with seq := .fn0 }) ∧
    (s.seq = .fn0 → exec .finish s = .next { s with cnt := s.params.nDummy, seq := .fn1 }) ∧
    (s.seq = .fn1 → exec .finish s = .next { s with seq := if s.cnt = 0 then .fn3 else .fn2 }) ∧
    (s.seq = .fn2 → exec .finish s = .next { s with
      doneIn := s.doneIn.tail, draws := s.draws + 1
      io := s.io ++ [.pinRead .done (s.readLevel .done)]
      seq := if s.readLevel .done = .high then .fn3 else .fna }) ∧
    (s.seq = .fna → exec .finish s = .next { s with
      clkLevel := .low, io := s.io ++ [.pinWrite .clock .low], seq := .fnb }) ∧
    (s.seq = .fnb → exec .finish s = .next { s with
      port := portMerge s.params.portW s.port (dataMask s.params.portW s.bind.dataOffset)
        (dataValue s.params.portW s.bind.dataOffset s.params.dummyByte)
      io := s.io ++ [.portWrite (dataMask s.params.portW s.bind.dataOffset)
        (dataValue s.params.portW s.bind.dataOffset s.params.dummyByte)]
      seq := .fnc }) ∧
    (s.seq = .fnc → 0 < s.cnt → exec .finish s = .next { s with
      clkLevel := .high, io := s.io ++ [.pinWrite .clock .high], cnt := s.cnt - 1, seq := .fn1 }) ∧
    (s.seq = .fn3 → exec .finish s = .next { s with
      doneIn := s.doneIn.tail, draws := s.draws + 1
      io := s.io ++ [.pinRead .done (s.readLevel .done)]
      state := if s.readLevel .done = .high then .done else s.state
      seq := .fn9 }) ∧
    (s.seq = .fn9 → exec .finish s = .next { s with
      results := s.results ++ [.state s.state], seq := .rest })

/-- R160 first case (a trace the spec derives), R154, R155 (that `cnt` keeps its last value is log entry 10): the loop
ended by a HIGH read after `n` LOW reads, `n < N_DUMMY`; `l2` is the level of the re-read. -/
def Obligations.FinishRunsWhenDoneReadsHigh : Prop :=
  ∀ (s : State) (n : Nat) (l2 : Level) (later : List Level) (cs : List CommandWord),
    s.Offers .finish cs → n < s.params.nDummy →
    s.doneIn = List.replicate n .low ++ .high :: l2 :: later →
    steps (5 * n + 6) s = .next { s with
      commands := cs
      state := if l2 = .high then .done else s.state
      cnt := s.params.nDummy - n
      clkLevel := clockAfter s.clkLevel (List.replicate n s.params.dummyByte)
      port := portAfter s.params s.bind s.port (List.replicate n s.params.dummyByte)
      doneIn := later
      draws := s.draws + (n + 2)
      io := s.io ++ (pollTrace s.params s.bind n ++ [.pinRead .done .high, .pinRead .done l2])
      results := s.results ++ [.state (if l2 = .high then .done else s.state)] }

/-- R160 second case (a trace the spec derives; that the counter is tested first is its decision D10, log entry 19),
R154, R155 (that `cnt` keeps its last value is log entry 10): the loop ended by the counter after `N_DUMMY` LOW reads;
`l2` is the level of the re-read. -/
def Obligations.FinishRunsWhenTheBudgetIsSpent : Prop :=
  ∀ (s : State) (l2 : Level) (later : List Level) (cs : List CommandWord),
    s.Offers .finish cs →
    s.doneIn = List.replicate s.params.nDummy .low ++ l2 :: later →
    steps (5 * s.params.nDummy + 5) s = .next { s with
      commands := cs
      state := if l2 = .high then .done else s.state
      cnt := 0
      clkLevel := clockAfter s.clkLevel (List.replicate s.params.nDummy s.params.dummyByte)
      port := portAfter s.params s.bind s.port (List.replicate s.params.nDummy s.params.dummyByte)
      doneIn := later
      draws := s.draws + (s.params.nDummy + 1)
      io := s.io ++ (pollTrace s.params s.bind s.params.nDummy ++ [.pinRead .done l2])
      results := s.results ++ [.state (if l2 = .high then .done else s.state)] }

/-- R157: with `done` HIGH after `N` dummy clocks (`N < 1024`), FINISH performs exactly `N` dummy-byte sequences in
`4N + 2` events and returns `Done`; with `done` HIGH only after the 1024th it returns `Done` by the re-read alone, with
`4 * 1024 + 1` events. The cases `N = 0` and `N = 1024` are the spec's own derivation in R157, and the event count of the
second rests on the counter being tested before the pin, the spec's decision D10 (log entry 19): tested after it, there
would be one more read of `done`. -/
def Obligations.FinishSucceedsAfterNDummyBytes : Prop :=
  ∀ (s : State) (n : Nat) (later : List Level) (cs : List CommandWord),
    s.Offers .finish cs → s.params.nDummy = 1024 →
    (n < 1024 → s.doneIn = List.replicate n .low ++ .high :: .high :: later →
      ∃ t tr, steps (5 * n + 6) s = .next t ∧ t.seq = .rest ∧ t.state = .done ∧
        t.results = s.results ++ [.state .done] ∧ t.io = s.io ++ tr ∧
        delivered s.params s.bind s.clkLevel s.port tr = List.replicate n s.params.dummyByte ∧
        tr.countP Event.isPortWrite = n ∧ tr.length = 4 * n + 2) ∧
    (s.doneIn = List.replicate 1024 .low ++ .high :: later →
      ∃ t tr, steps (5 * 1024 + 5) s = .next t ∧ t.seq = .rest ∧ t.state = .done ∧
        t.results = s.results ++ [.state .done] ∧ t.io = s.io ++ tr ∧
        delivered s.params s.bind s.clkLevel s.port tr = List.replicate 1024 s.params.dummyByte ∧
        tr.countP Event.isPortWrite = 1024 ∧ tr.length = 4 * 1024 + 1)

/-- R156: with `done` permanently LOW, FINISH issues exactly 1024 dummy-byte sequences and then returns the unchanged
`state`, `Configuring` in a regular run: 4097 events, 1025 reads of `done`, 1024 port writes, 2048 clock writes. The
number of steps, the 4097 events and the 1025 reads rest on the counter being tested before the pin, the spec's decision
D10 (log entry 19): tested after it, there would be one more read of `done`; the dummy bytes, `state` and the result are
the same either way. -/
def Obligations.FinishTimesOutAfter1024DummyBytes : Prop :=
  ∀ (s : State) (later : List Level) (cs : List CommandWord),
    s.Offers .finish cs → s.params.nDummy = 1024 →
    s.doneIn = List.replicate 1025 .low ++ later →
    ∃ t tr, steps (5 * 1024 + 5) s = .next t ∧ t.seq = .rest ∧ t.state = s.state ∧
      t.results = s.results ++ [.state s.state] ∧ t.io = s.io ++ tr ∧
      delivered s.params s.bind s.clkLevel s.port tr = List.replicate 1024 s.params.dummyByte ∧
      tr.length = 4097 ∧ tr.countP Event.isDoneRead = 1025 ∧ tr.countP Event.isPortWrite = 1024 ∧
      tr.countP Event.isClockWrite = 2048

/-! ### The whole machine -/

/-- R204, R205, R207, R31 to R36, R58, R151: every step keeps the invariant. -/
def Obligations.EveryStepKeepsTheInvariant : Prop :=
  ∀ s t : State, s.Inv → step s = .next t → t.Inv

/-- The state after reset meets the invariant (its unstated values are the model's, log entries 6, 7, 9, 10). -/
def Obligations.ResetMeetsTheInvariant : Prop :=
  State.reset.Inv

/-- R170, R121, R139, R161: no exception: in a state that meets the invariant no step faults, and while a command is in
progress and no reset comes, every step is enabled. -/
def Obligations.NoFaultAndEveryRowEnabled : Prop :=
  ∀ s : State, s.Inv →
    (∀ r, step s ≠ .fault r) ∧
    (s.seq ≠ .rest → s.resetIn = false → ∃ t, step s = .next t)

/-- R22 to R28: the binding registers are read-only to the controller, and the parameters are fixed. -/
def Obligations.NoStepWritesTheBindings : Prop :=
  ∀ s t : State, step s = .next t → t.bind = s.bind ∧ t.params = s.params

/-- R21, R181: the writers of `state` and no others: INIT and the reset input write `Idle`, START's last step
`Configuring`, FINISH's re-read `Done` when it returned HIGH. -/
def Obligations.LifecycleHasTheseWritersOnly : Prop :=
  ∀ s t : State, step s = .next t → t.state ≠ s.state →
    (s.seq = .rest ∧ t.seq = .rest ∧ t.state = .idle ∧
      (s.resetIn = true ∨ ∃ cs, s.commands = encode .init :: cs)) ∨
    (s.seq = .st6 ∧ t.state = .configuring) ∨
    (s.seq = .fn3 ∧ s.readLevel .done = .high ∧ t.state = .done)

/-- R25, R26, R36: the latches change in the rows that write them only: the program pin at START's steps 2 and 4, the
clock at step 1 and in byte sequences, HIGH only as the third event of a byte sequence, the port only as the second. -/
def Obligations.LatchesHaveTheseWritersOnly : Prop :=
  ∀ s t : State, step s = .next t →
    (t.progLevel = s.progLevel ∨ (s.seq = .st2 ∧ t.progLevel = .low) ∨ (s.seq = .st4 ∧ t.progLevel = .high)) ∧
    (t.clkLevel = s.clkLevel ∨ (s.seq ∈ [Seq.st1, .sda, .fna] ∧ t.clkLevel = .low) ∨
      (s.seq ∈ [Seq.sdc, .fnc] ∧ t.clkLevel = .high)) ∧
    (t.port = s.port ∨ s.seq ∈ [Seq.sdb, .fnb])

/-- R67, R207, R69 (the sampled byte is the spec's definition, D26): in a state that meets the invariant, a step that
drives the clock HIGH is a rising edge, and the window then holds the byte being sent: `data[idx]` in SEND, the dummy
byte in FINISH. -/
def Obligations.EveryRisingEdgeDeliversItsByte : Prop :=
  ∀ s t : State, s.Inv → step s = .next t → t.io = s.io ++ [.pinWrite .clock .high] →
    s.clkLevel = .low ∧ t.clkLevel = .high ∧ t.port = s.port ∧
    ((s.seq = .sdc ∧ s.buf[s.idx]? = some (window s.bind.dataOffset s.port)) ∨
      (s.seq = .fnc ∧ window s.bind.dataOffset s.port = s.params.dummyByte))

/-- R66, R38: the events are issued one at a time and none is dropped: a step appends at most one event to the history,
but for the reset input, which empties it. -/
def Obligations.AStepIssuesAtMostOneEvent : Prop :=
  ∀ s t : State, step s = .next t →
    t.io = s.io ∨ (∃ e, t.io = s.io ++ [e]) ∨ (s.resetIn = true ∧ t.io = [])

/-- R83, R93 (the moment of delivery is the spec's decision D25): while a command is in progress the host's next command
is not taken, and its result is delivered in the step that returns to `REST`, and in no other. -/
def Obligations.HostIsBlockedUntilTheResult : Prop :=
  ∀ s t : State, s.seq ≠ .rest → step s = .next t →
    t.commands = s.commands ∧
    (t.seq ≠ .rest → t.results = s.results) ∧
    (t.seq = .rest → t.results = s.results ++
      [if s.seq = .fn9 then .state s.state else .status .ok])

/-- R174: the inputs are sampled only by `PinRead`, at the rows the step lists name: at every other row a change of the
level of `init` or of `done` has no effect on the controller. -/
def Obligations.InputsAreSampledAtTheirReadsOnly : Prop :=
  ∀ (s : State) (levels : List Level),
    (s.seq ≠ .st5 → step { s with initIn := levels } = mapNext (fun t => { t with initIn := levels }) (step s)) ∧
    (s.seq ≠ .fn2 → s.seq ≠ .fn3 →
      step { s with doneIn := levels } = mapNext (fun t => { t with doneIn := levels }) (step s))

/-- R181 (that nothing checks the preconditions is the spec's decision D9): the lifecycle state gates nothing: two
machines that differ in `state` alone run alike for any number of steps, but for `state` itself and FINISH's result. -/
def Obligations.LifecycleGatesNothing : Prop :=
  ∀ (n : Nat) (s s' : State), s.hideLifecycle = s'.hideLifecycle →
    mapNext State.hideLifecycle (steps n s) = mapNext State.hideLifecycle (steps n s')

/-- R41, R203, R69 (the delivered stream is the spec's definition, D26): the configuration sequence INIT, START, any
number of SENDs, FINISH, with `init` ready after `k` LOW reads and `done` HIGH after `n` dummy bytes: `state` is `Idle`
after INIT, `Configuring` after START and after each SEND, `Done` after FINISH, and the device was delivered the bytes
of the chunks in order and then `n` dummy bytes. -/
def Obligations.ConfigurationSequenceEndsDone : Prop :=
  ∀ (s : State) (chunks : List (List Byte)) (k n : Nat) (initLater doneLater : List Level) (cs : List CommandWord),
    s.Offers .init (encode .start :: (chunks.map fun d => encode (.send d)) ++ encode .finish :: cs) →
    n < s.params.nDummy →
    s.initIn = List.replicate k .low ++ .high :: initLater →
    s.doneIn = List.replicate n .low ++ .high :: .high :: doneLater →
    (∃ t, steps 1 s = .next t ∧ t.seq = .rest ∧ t.state = .idle) ∧
    (∀ j, j ≤ chunks.length → ∃ t,
      steps (8 + 2 * k + ((chunks.take j).map fun d => 4 * d.length + 3).sum) s = .next t ∧
      t.seq = .rest ∧ t.state = .configuring) ∧
    (∃ t tr, steps (8 + 2 * k + (chunks.map fun d => 4 * d.length + 3).sum + (5 * n + 6)) s = .next t ∧
      t.seq = .rest ∧ t.state = .done ∧ t.commands = cs ∧ t.io = s.io ++ tr ∧
      delivered s.params s.bind s.clkLevel s.port tr =
        chunks.flatten ++ List.replicate n s.params.dummyByte)
end

