-- ==== Sys2Proof/Laws/PerInstr.lean ====
section
/-! SUPPORT. What holds of every instruction as syntax, one lemma per constructor: its encoding has the form of its
format (R81, R82). -/

namespace Sys2Proof.Laws.EncodedWord

/-- The encoding of `i` is a well-formed command word. -/
def Statement (i : Instr) : Prop := (encode i).wf = true

theorem init : Statement .init := rfl

theorem start : Statement .start := rfl

theorem send (data : List Byte) : Statement (.send data) := by
  simp [Statement, encode, CommandWord.wf, CommandWord.lengthMatches]

theorem finish : Statement .finish := rfl

end Sys2Proof.Laws.EncodedWord
end

