-- ==== Sys2Proof/Laws/State.lean ====
section
/-! SUPPORT. The field lemmas of State: for every update, what each field is after it, and that none makes or unmakes a supported descriptor. With them in the simp set no
later proof unfolds a record update. -/

namespace Sys2Proof.Machine

variable (s : State)

@[simp] theorem State.emit_state (e : Event) : (s.emit e).state = s.state := rfl
@[simp] theorem State.emit_bind (e : Event) : (s.emit e).bind = s.bind := rfl
@[simp] theorem State.emit_params (e : Event) : (s.emit e).params = s.params := rfl
@[simp] theorem State.emit_seq (e : Event) : (s.emit e).seq = s.seq := rfl
@[simp] theorem State.emit_idx (e : Event) : (s.emit e).idx = s.idx := rfl
@[simp] theorem State.emit_cnt (e : Event) : (s.emit e).cnt = s.cnt := rfl
@[simp] theorem State.emit_buf (e : Event) : (s.emit e).buf = s.buf := rfl
@[simp] theorem State.emit_len (e : Event) : (s.emit e).len = s.len := rfl
@[simp] theorem State.emit_clkLevel (e : Event) : (s.emit e).clkLevel = s.clkLevel := rfl
@[simp] theorem State.emit_progLevel (e : Event) : (s.emit e).progLevel = s.progLevel := rfl
@[simp] theorem State.emit_port (e : Event) : (s.emit e).port = s.port := rfl
@[simp] theorem State.emit_io (e : Event) : (s.emit e).io = s.io ++ [e] := rfl
@[simp] theorem State.emit_results (e : Event) : (s.emit e).results = s.results := rfl
@[simp] theorem State.emit_initIn (e : Event) : (s.emit e).initIn = s.initIn := rfl
@[simp] theorem State.emit_doneIn (e : Event) : (s.emit e).doneIn = s.doneIn := rfl
@[simp] theorem State.emit_draws (e : Event) : (s.emit e).draws = s.draws := rfl
@[simp] theorem State.emit_commands (e : Event) : (s.emit e).commands = s.commands := rfl
@[simp] theorem State.emit_resetIn (e : Event) : (s.emit e).resetIn = s.resetIn := rfl
@[simp] theorem State.emit_supported (e : Event) : (s.emit e).supported = s.supported := rfl

@[simp] theorem State.goto_state (l : Seq) : (s.goto l).state = s.state := rfl
@[simp] theorem State.goto_bind (l : Seq) : (s.goto l).bind = s.bind := rfl
@[simp] theorem State.goto_params (l : Seq) : (s.goto l).params = s.params := rfl
@[simp] theorem State.goto_seq (l : Seq) : (s.goto l).seq = l := rfl
@[simp] theorem State.goto_idx (l : Seq) : (s.goto l).idx = s.idx := rfl
@[simp] theorem State.goto_cnt (l : Seq) : (s.goto l).cnt = s.cnt := rfl
@[simp] theorem State.goto_buf (l : Seq) : (s.goto l).buf = s.buf := rfl
@[simp] theorem State.goto_len (l : Seq) : (s.goto l).len = s.len := rfl
@[simp] theorem State.goto_clkLevel (l : Seq) : (s.goto l).clkLevel = s.clkLevel := rfl
@[simp] theorem State.goto_progLevel (l : Seq) : (s.goto l).progLevel = s.progLevel := rfl
@[simp] theorem State.goto_port (l : Seq) : (s.goto l).port = s.port := rfl
@[simp] theorem State.goto_io (l : Seq) : (s.goto l).io = s.io := rfl
@[simp] theorem State.goto_results (l : Seq) : (s.goto l).results = s.results := rfl
@[simp] theorem State.goto_initIn (l : Seq) : (s.goto l).initIn = s.initIn := rfl
@[simp] theorem State.goto_doneIn (l : Seq) : (s.goto l).doneIn = s.doneIn := rfl
@[simp] theorem State.goto_draws (l : Seq) : (s.goto l).draws = s.draws := rfl
@[simp] theorem State.goto_commands (l : Seq) : (s.goto l).commands = s.commands := rfl
@[simp] theorem State.goto_resetIn (l : Seq) : (s.goto l).resetIn = s.resetIn := rfl
@[simp] theorem State.goto_supported (l : Seq) : (s.goto l).supported = s.supported := rfl

@[simp] theorem State.setState_state (v : Lifecycle) : (s.setState v).state = v := rfl
@[simp] theorem State.setState_bind (v : Lifecycle) : (s.setState v).bind = s.bind := rfl
@[simp] theorem State.setState_params (v : Lifecycle) : (s.setState v).params = s.params := rfl
@[simp] theorem State.setState_seq (v : Lifecycle) : (s.setState v).seq = s.seq := rfl
@[simp] theorem State.setState_idx (v : Lifecycle) : (s.setState v).idx = s.idx := rfl
@[simp] theorem State.setState_cnt (v : Lifecycle) : (s.setState v).cnt = s.cnt := rfl
@[simp] theorem State.setState_buf (v : Lifecycle) : (s.setState v).buf = s.buf := rfl
@[simp] theorem State.setState_len (v : Lifecycle) : (s.setState v).len = s.len := rfl
@[simp] theorem State.setState_clkLevel (v : Lifecycle) : (s.setState v).clkLevel = s.clkLevel := rfl
@[simp] theorem State.setState_progLevel (v : Lifecycle) : (s.setState v).progLevel = s.progLevel := rfl
@[simp] theorem State.setState_port (v : Lifecycle) : (s.setState v).port = s.port := rfl
@[simp] theorem State.setState_io (v : Lifecycle) : (s.setState v).io = s.io := rfl
@[simp] theorem State.setState_results (v : Lifecycle) : (s.setState v).results = s.results := rfl
@[simp] theorem State.setState_initIn (v : Lifecycle) : (s.setState v).initIn = s.initIn := rfl
@[simp] theorem State.setState_doneIn (v : Lifecycle) : (s.setState v).doneIn = s.doneIn := rfl
@[simp] theorem State.setState_draws (v : Lifecycle) : (s.setState v).draws = s.draws := rfl
@[simp] theorem State.setState_commands (v : Lifecycle) : (s.setState v).commands = s.commands := rfl
@[simp] theorem State.setState_resetIn (v : Lifecycle) : (s.setState v).resetIn = s.resetIn := rfl
@[simp] theorem State.setState_supported (v : Lifecycle) : (s.setState v).supported = s.supported := rfl

@[simp] theorem State.setIdx_state (n : Nat) : (s.setIdx n).state = s.state := rfl
@[simp] theorem State.setIdx_bind (n : Nat) : (s.setIdx n).bind = s.bind := rfl
@[simp] theorem State.setIdx_params (n : Nat) : (s.setIdx n).params = s.params := rfl
@[simp] theorem State.setIdx_seq (n : Nat) : (s.setIdx n).seq = s.seq := rfl
@[simp] theorem State.setIdx_idx (n : Nat) : (s.setIdx n).idx = n := rfl
@[simp] theorem State.setIdx_cnt (n : Nat) : (s.setIdx n).cnt = s.cnt := rfl
@[simp] theorem State.setIdx_buf (n : Nat) : (s.setIdx n).buf = s.buf := rfl
@[simp] theorem State.setIdx_len (n : Nat) : (s.setIdx n).len = s.len := rfl
@[simp] theorem State.setIdx_clkLevel (n : Nat) : (s.setIdx n).clkLevel = s.clkLevel := rfl
@[simp] theorem State.setIdx_progLevel (n : Nat) : (s.setIdx n).progLevel = s.progLevel := rfl
@[simp] theorem State.setIdx_port (n : Nat) : (s.setIdx n).port = s.port := rfl
@[simp] theorem State.setIdx_io (n : Nat) : (s.setIdx n).io = s.io := rfl
@[simp] theorem State.setIdx_results (n : Nat) : (s.setIdx n).results = s.results := rfl
@[simp] theorem State.setIdx_initIn (n : Nat) : (s.setIdx n).initIn = s.initIn := rfl
@[simp] theorem State.setIdx_doneIn (n : Nat) : (s.setIdx n).doneIn = s.doneIn := rfl
@[simp] theorem State.setIdx_draws (n : Nat) : (s.setIdx n).draws = s.draws := rfl
@[simp] theorem State.setIdx_commands (n : Nat) : (s.setIdx n).commands = s.commands := rfl
@[simp] theorem State.setIdx_resetIn (n : Nat) : (s.setIdx n).resetIn = s.resetIn := rfl
@[simp] theorem State.setIdx_supported (n : Nat) : (s.setIdx n).supported = s.supported := rfl

@[simp] theorem State.setCnt_state (n : Nat) : (s.setCnt n).state = s.state := rfl
@[simp] theorem State.setCnt_bind (n : Nat) : (s.setCnt n).bind = s.bind := rfl
@[simp] theorem State.setCnt_params (n : Nat) : (s.setCnt n).params = s.params := rfl
@[simp] theorem State.setCnt_seq (n : Nat) : (s.setCnt n).seq = s.seq := rfl
@[simp] theorem State.setCnt_idx (n : Nat) : (s.setCnt n).idx = s.idx := rfl
@[simp] theorem State.setCnt_cnt (n : Nat) : (s.setCnt n).cnt = n := rfl
@[simp] theorem State.setCnt_buf (n : Nat) : (s.setCnt n).buf = s.buf := rfl
@[simp] theorem State.setCnt_len (n : Nat) : (s.setCnt n).len = s.len := rfl
@[simp] theorem State.setCnt_clkLevel (n : Nat) : (s.setCnt n).clkLevel = s.clkLevel := rfl
@[simp] theorem State.setCnt_progLevel (n : Nat) : (s.setCnt n).progLevel = s.progLevel := rfl
@[simp] theorem State.setCnt_port (n : Nat) : (s.setCnt n).port = s.port := rfl
@[simp] theorem State.setCnt_io (n : Nat) : (s.setCnt n).io = s.io := rfl
@[simp] theorem State.setCnt_results (n : Nat) : (s.setCnt n).results = s.results := rfl
@[simp] theorem State.setCnt_initIn (n : Nat) : (s.setCnt n).initIn = s.initIn := rfl
@[simp] theorem State.setCnt_doneIn (n : Nat) : (s.setCnt n).doneIn = s.doneIn := rfl
@[simp] theorem State.setCnt_draws (n : Nat) : (s.setCnt n).draws = s.draws := rfl
@[simp] theorem State.setCnt_commands (n : Nat) : (s.setCnt n).commands = s.commands := rfl
@[simp] theorem State.setCnt_resetIn (n : Nat) : (s.setCnt n).resetIn = s.resetIn := rfl
@[simp] theorem State.setCnt_supported (n : Nat) : (s.setCnt n).supported = s.supported := rfl

@[simp] theorem State.deliver_state (r : Result) : (s.deliver r).state = s.state := rfl
@[simp] theorem State.deliver_bind (r : Result) : (s.deliver r).bind = s.bind := rfl
@[simp] theorem State.deliver_params (r : Result) : (s.deliver r).params = s.params := rfl
@[simp] theorem State.deliver_seq (r : Result) : (s.deliver r).seq = .rest := rfl
@[simp] theorem State.deliver_idx (r : Result) : (s.deliver r).idx = s.idx := rfl
@[simp] theorem State.deliver_cnt (r : Result) : (s.deliver r).cnt = s.cnt := rfl
@[simp] theorem State.deliver_buf (r : Result) : (s.deliver r).buf = s.buf := rfl
@[simp] theorem State.deliver_len (r : Result) : (s.deliver r).len = s.len := rfl
@[simp] theorem State.deliver_clkLevel (r : Result) : (s.deliver r).clkLevel = s.clkLevel := rfl
@[simp] theorem State.deliver_progLevel (r : Result) : (s.deliver r).progLevel = s.progLevel := rfl
@[simp] theorem State.deliver_port (r : Result) : (s.deliver r).port = s.port := rfl
@[simp] theorem State.deliver_io (r : Result) : (s.deliver r).io = s.io := rfl
@[simp] theorem State.deliver_results (r : Result) : (s.deliver r).results = s.results ++ [r] := rfl
@[simp] theorem State.deliver_initIn (r : Result) : (s.deliver r).initIn = s.initIn := rfl
@[simp] theorem State.deliver_doneIn (r : Result) : (s.deliver r).doneIn = s.doneIn := rfl
@[simp] theorem State.deliver_draws (r : Result) : (s.deliver r).draws = s.draws := rfl
@[simp] theorem State.deliver_commands (r : Result) : (s.deliver r).commands = s.commands := rfl
@[simp] theorem State.deliver_resetIn (r : Result) : (s.deliver r).resetIn = s.resetIn := rfl
@[simp] theorem State.deliver_supported (r : Result) : (s.deliver r).supported = s.supported := rfl

@[simp] theorem State.setLevel_state (p : OutPin) (l : Level) : (s.setLevel p l).state = s.state := by cases p <;> rfl
@[simp] theorem State.setLevel_bind (p : OutPin) (l : Level) : (s.setLevel p l).bind = s.bind := by cases p <;> rfl
@[simp] theorem State.setLevel_params (p : OutPin) (l : Level) : (s.setLevel p l).params = s.params := by cases p <;> rfl
@[simp] theorem State.setLevel_seq (p : OutPin) (l : Level) : (s.setLevel p l).seq = s.seq := by cases p <;> rfl
@[simp] theorem State.setLevel_idx (p : OutPin) (l : Level) : (s.setLevel p l).idx = s.idx := by cases p <;> rfl
@[simp] theorem State.setLevel_cnt (p : OutPin) (l : Level) : (s.setLevel p l).cnt = s.cnt := by cases p <;> rfl
@[simp] theorem State.setLevel_buf (p : OutPin) (l : Level) : (s.setLevel p l).buf = s.buf := by cases p <;> rfl
@[simp] theorem State.setLevel_len (p : OutPin) (l : Level) : (s.setLevel p l).len = s.len := by cases p <;> rfl
@[simp] theorem State.setLevel_clkLevel (p : OutPin) (l : Level) : (s.setLevel p l).clkLevel = if p = .clock then l else s.clkLevel := by cases p <;> rfl
@[simp] theorem State.setLevel_progLevel (p : OutPin) (l : Level) : (s.setLevel p l).progLevel = if p = .program then l else s.progLevel := by cases p <;> rfl
@[simp] theorem State.setLevel_port (p : OutPin) (l : Level) : (s.setLevel p l).port = s.port := by cases p <;> rfl
@[simp] theorem State.setLevel_io (p : OutPin) (l : Level) : (s.setLevel p l).io = s.io := by cases p <;> rfl
@[simp] theorem State.setLevel_results (p : OutPin) (l : Level) : (s.setLevel p l).results = s.results := by cases p <;> rfl
@[simp] theorem State.setLevel_initIn (p : OutPin) (l : Level) : (s.setLevel p l).initIn = s.initIn := by cases p <;> rfl
@[simp] theorem State.setLevel_doneIn (p : OutPin) (l : Level) : (s.setLevel p l).doneIn = s.doneIn := by cases p <;> rfl
@[simp] theorem State.setLevel_draws (p : OutPin) (l : Level) : (s.setLevel p l).draws = s.draws := by cases p <;> rfl
@[simp] theorem State.setLevel_commands (p : OutPin) (l : Level) : (s.setLevel p l).commands = s.commands := by cases p <;> rfl
@[simp] theorem State.setLevel_resetIn (p : OutPin) (l : Level) : (s.setLevel p l).resetIn = s.resetIn := by cases p <;> rfl
@[simp] theorem State.setLevel_supported (p : OutPin) (l : Level) : (s.setLevel p l).supported = s.supported := by cases p <;> rfl

@[simp] theorem State.portWrite_state (m v : Nat) : (s.portWrite m v).state = s.state := rfl
@[simp] theorem State.portWrite_bind (m v : Nat) : (s.portWrite m v).bind = s.bind := rfl
@[simp] theorem State.portWrite_params (m v : Nat) : (s.portWrite m v).params = s.params := rfl
@[simp] theorem State.portWrite_seq (m v : Nat) : (s.portWrite m v).seq = s.seq := rfl
@[simp] theorem State.portWrite_idx (m v : Nat) : (s.portWrite m v).idx = s.idx := rfl
@[simp] theorem State.portWrite_cnt (m v : Nat) : (s.portWrite m v).cnt = s.cnt := rfl
@[simp] theorem State.portWrite_buf (m v : Nat) : (s.portWrite m v).buf = s.buf := rfl
@[simp] theorem State.portWrite_len (m v : Nat) : (s.portWrite m v).len = s.len := rfl
@[simp] theorem State.portWrite_clkLevel (m v : Nat) : (s.portWrite m v).clkLevel = s.clkLevel := rfl
@[simp] theorem State.portWrite_progLevel (m v : Nat) : (s.portWrite m v).progLevel = s.progLevel := rfl
@[simp] theorem State.portWrite_port (m v : Nat) : (s.portWrite m v).port = portMerge s.params.portW s.port m v := rfl
@[simp] theorem State.portWrite_io (m v : Nat) : (s.portWrite m v).io = s.io ++ [.portWrite m v] := rfl
@[simp] theorem State.portWrite_results (m v : Nat) : (s.portWrite m v).results = s.results := rfl
@[simp] theorem State.portWrite_initIn (m v : Nat) : (s.portWrite m v).initIn = s.initIn := rfl
@[simp] theorem State.portWrite_doneIn (m v : Nat) : (s.portWrite m v).doneIn = s.doneIn := rfl
@[simp] theorem State.portWrite_draws (m v : Nat) : (s.portWrite m v).draws = s.draws := rfl
@[simp] theorem State.portWrite_commands (m v : Nat) : (s.portWrite m v).commands = s.commands := rfl
@[simp] theorem State.portWrite_resetIn (m v : Nat) : (s.portWrite m v).resetIn = s.resetIn := rfl
@[simp] theorem State.portWrite_supported (m v : Nat) : (s.portWrite m v).supported = s.supported := rfl

@[simp] theorem State.consume_state (p : InPin) : (s.consume p).state = s.state := by cases p <;> rfl
@[simp] theorem State.consume_bind (p : InPin) : (s.consume p).bind = s.bind := by cases p <;> rfl
@[simp] theorem State.consume_params (p : InPin) : (s.consume p).params = s.params := by cases p <;> rfl
@[simp] theorem State.consume_seq (p : InPin) : (s.consume p).seq = s.seq := by cases p <;> rfl
@[simp] theorem State.consume_idx (p : InPin) : (s.consume p).idx = s.idx := by cases p <;> rfl
@[simp] theorem State.consume_cnt (p : InPin) : (s.consume p).cnt = s.cnt := by cases p <;> rfl
@[simp] theorem State.consume_buf (p : InPin) : (s.consume p).buf = s.buf := by cases p <;> rfl
@[simp] theorem State.consume_len (p : InPin) : (s.consume p).len = s.len := by cases p <;> rfl
@[simp] theorem State.consume_clkLevel (p : InPin) : (s.consume p).clkLevel = s.clkLevel := by cases p <;> rfl
@[simp] theorem State.consume_progLevel (p : InPin) : (s.consume p).progLevel = s.progLevel := by cases p <;> rfl
@[simp] theorem State.consume_port (p : InPin) : (s.consume p).port = s.port := by cases p <;> rfl
@[simp] theorem State.consume_io (p : InPin) : (s.consume p).io = s.io := by cases p <;> rfl
@[simp] theorem State.consume_results (p : InPin) : (s.consume p).results = s.results := by cases p <;> rfl
@[simp] theorem State.consume_initIn (p : InPin) : (s.consume p).initIn = if p = .init then s.initIn.tail else s.initIn := by cases p <;> rfl
@[simp] theorem State.consume_doneIn (p : InPin) : (s.consume p).doneIn = if p = .done then s.doneIn.tail else s.doneIn := by cases p <;> rfl
@[simp] theorem State.consume_draws (p : InPin) : (s.consume p).draws = s.draws + 1 := by cases p <;> rfl
@[simp] theorem State.consume_commands (p : InPin) : (s.consume p).commands = s.commands := by cases p <;> rfl
@[simp] theorem State.consume_resetIn (p : InPin) : (s.consume p).resetIn = s.resetIn := by cases p <;> rfl
@[simp] theorem State.consume_supported (p : InPin) : (s.consume p).supported = s.supported := by cases p <;> rfl

@[simp] theorem State.capture_state (data : List Byte) : (s.capture data).state = s.state := rfl
@[simp] theorem State.capture_bind (data : List Byte) : (s.capture data).bind = s.bind := rfl
@[simp] theorem State.capture_params (data : List Byte) : (s.capture data).params = s.params := rfl
@[simp] theorem State.capture_seq (data : List Byte) : (s.capture data).seq = .sd0 := rfl
@[simp] theorem State.capture_idx (data : List Byte) : (s.capture data).idx = 0 := rfl
@[simp] theorem State.capture_cnt (data : List Byte) : (s.capture data).cnt = s.cnt := rfl
@[simp] theorem State.capture_buf (data : List Byte) : (s.capture data).buf = data := rfl
@[simp] theorem State.capture_len (data : List Byte) : (s.capture data).len = data.length := rfl
@[simp] theorem State.capture_clkLevel (data : List Byte) : (s.capture data).clkLevel = s.clkLevel := rfl
@[simp] theorem State.capture_progLevel (data : List Byte) : (s.capture data).progLevel = s.progLevel := rfl
@[simp] theorem State.capture_port (data : List Byte) : (s.capture data).port = s.port := rfl
@[simp] theorem State.capture_io (data : List Byte) : (s.capture data).io = s.io := rfl
@[simp] theorem State.capture_results (data : List Byte) : (s.capture data).results = s.results := rfl
@[simp] theorem State.capture_initIn (data : List Byte) : (s.capture data).initIn = s.initIn := rfl
@[simp] theorem State.capture_doneIn (data : List Byte) : (s.capture data).doneIn = s.doneIn := rfl
@[simp] theorem State.capture_draws (data : List Byte) : (s.capture data).draws = s.draws := rfl
@[simp] theorem State.capture_commands (data : List Byte) : (s.capture data).commands = s.commands := rfl
@[simp] theorem State.capture_resetIn (data : List Byte) : (s.capture data).resetIn = s.resetIn := rfl
@[simp] theorem State.capture_supported (data : List Byte) : (s.capture data).supported = s.supported := rfl

@[simp] theorem State.withCommands_state (cs : List CommandWord) : (s.withCommands cs).state = s.state := rfl
@[simp] theorem State.withCommands_bind (cs : List CommandWord) : (s.withCommands cs).bind = s.bind := rfl
@[simp] theorem State.withCommands_params (cs : List CommandWord) : (s.withCommands cs).params = s.params := rfl
@[simp] theorem State.withCommands_seq (cs : List CommandWord) : (s.withCommands cs).seq = s.seq := rfl
@[simp] theorem State.withCommands_idx (cs : List CommandWord) : (s.withCommands cs).idx = s.idx := rfl
@[simp] theorem State.withCommands_cnt (cs : List CommandWord) : (s.withCommands cs).cnt = s.cnt := rfl
@[simp] theorem State.withCommands_buf (cs : List CommandWord) : (s.withCommands cs).buf = s.buf := rfl
@[simp] theorem State.withCommands_len (cs : List CommandWord) : (s.withCommands cs).len = s.len := rfl
@[simp] theorem State.withCommands_clkLevel (cs : List CommandWord) : (s.withCommands cs).clkLevel = s.clkLevel := rfl
@[simp] theorem State.withCommands_progLevel (cs : List CommandWord) : (s.withCommands cs).progLevel = s.progLevel := rfl
@[simp] theorem State.withCommands_port (cs : List CommandWord) : (s.withCommands cs).port = s.port := rfl
@[simp] theorem State.withCommands_io (cs : List CommandWord) : (s.withCommands cs).io = s.io := rfl
@[simp] theorem State.withCommands_results (cs : List CommandWord) : (s.withCommands cs).results = s.results := rfl
@[simp] theorem State.withCommands_initIn (cs : List CommandWord) : (s.withCommands cs).initIn = s.initIn := rfl
@[simp] theorem State.withCommands_doneIn (cs : List CommandWord) : (s.withCommands cs).doneIn = s.doneIn := rfl
@[simp] theorem State.withCommands_draws (cs : List CommandWord) : (s.withCommands cs).draws = s.draws := rfl
@[simp] theorem State.withCommands_commands (cs : List CommandWord) : (s.withCommands cs).commands = cs := rfl
@[simp] theorem State.withCommands_resetIn (cs : List CommandWord) : (s.withCommands cs).resetIn = s.resetIn := rfl
@[simp] theorem State.withCommands_supported (cs : List CommandWord) : (s.withCommands cs).supported = s.supported := rfl

@[simp] theorem State.afterReset_state : s.afterReset.state = .idle := rfl
@[simp] theorem State.afterReset_bind : s.afterReset.bind = s.bind := rfl
@[simp] theorem State.afterReset_params : s.afterReset.params = s.params := rfl
@[simp] theorem State.afterReset_seq : s.afterReset.seq = .rest := rfl
@[simp] theorem State.afterReset_idx : s.afterReset.idx = s.idx := rfl
@[simp] theorem State.afterReset_cnt : s.afterReset.cnt = s.cnt := rfl
@[simp] theorem State.afterReset_buf : s.afterReset.buf = s.buf := rfl
@[simp] theorem State.afterReset_len : s.afterReset.len = s.len := rfl
@[simp] theorem State.afterReset_clkLevel : s.afterReset.clkLevel = s.clkLevel := rfl
@[simp] theorem State.afterReset_progLevel : s.afterReset.progLevel = s.progLevel := rfl
@[simp] theorem State.afterReset_port : s.afterReset.port = s.port := rfl
@[simp] theorem State.afterReset_io : s.afterReset.io = [] := rfl
@[simp] theorem State.afterReset_results : s.afterReset.results = s.results := rfl
@[simp] theorem State.afterReset_initIn : s.afterReset.initIn = s.initIn := rfl
@[simp] theorem State.afterReset_doneIn : s.afterReset.doneIn = s.doneIn := rfl
@[simp] theorem State.afterReset_draws : s.afterReset.draws = s.draws := rfl
@[simp] theorem State.afterReset_commands : s.afterReset.commands = s.commands := rfl
@[simp] theorem State.afterReset_resetIn : s.afterReset.resetIn = false := rfl
@[simp] theorem State.afterReset_supported : s.afterReset.supported = s.supported := rfl

@[simp] theorem State.present_state (w : CommandWord) : (s.present w).state = s.state := rfl
@[simp] theorem State.present_bind (w : CommandWord) : (s.present w).bind = s.bind := rfl
@[simp] theorem State.present_params (w : CommandWord) : (s.present w).params = s.params := rfl
@[simp] theorem State.present_seq (w : CommandWord) : (s.present w).seq = .rest := rfl
@[simp] theorem State.present_idx (w : CommandWord) : (s.present w).idx = s.idx := rfl
@[simp] theorem State.present_cnt (w : CommandWord) : (s.present w).cnt = s.cnt := rfl
@[simp] theorem State.present_buf (w : CommandWord) : (s.present w).buf = s.buf := rfl
@[simp] theorem State.present_len (w : CommandWord) : (s.present w).len = s.len := rfl
@[simp] theorem State.present_clkLevel (w : CommandWord) : (s.present w).clkLevel = s.clkLevel := rfl
@[simp] theorem State.present_progLevel (w : CommandWord) : (s.present w).progLevel = s.progLevel := rfl
@[simp] theorem State.present_port (w : CommandWord) : (s.present w).port = s.port := rfl
@[simp] theorem State.present_io (w : CommandWord) : (s.present w).io = s.io := rfl
@[simp] theorem State.present_results (w : CommandWord) : (s.present w).results = s.results := rfl
@[simp] theorem State.present_initIn (w : CommandWord) : (s.present w).initIn = s.initIn := rfl
@[simp] theorem State.present_doneIn (w : CommandWord) : (s.present w).doneIn = s.doneIn := rfl
@[simp] theorem State.present_draws (w : CommandWord) : (s.present w).draws = s.draws := rfl
@[simp] theorem State.present_commands (w : CommandWord) : (s.present w).commands = w :: s.commands := rfl
@[simp] theorem State.present_resetIn (w : CommandWord) : (s.present w).resetIn = false := rfl
@[simp] theorem State.present_supported (w : CommandWord) : (s.present w).supported = s.supported := rfl

@[simp] theorem State.pinWrite_eq (p : OutPin) (l : Level) : s.pinWrite p l = (s.setLevel p l).emit (.pinWrite p l) := rfl
@[simp] theorem State.delay_eq (d : Nat) : s.delay d = s.emit (.delay d) := rfl
@[simp] theorem State.clock_eq (l : Level) : s.clock l = (s.setLevel .clock l).emit (.pinWrite .clock l) := rfl
@[simp] theorem State.afterRead_eq (p : InPin) : s.afterRead p = (s.consume p).emit (.pinRead p (s.readLevel p)) := rfl
@[simp] theorem State.driveByte_eq (b : Byte) : s.driveByte b =
    s.portWrite (dataMask s.params.portW s.bind.dataOffset) (dataValue s.params.portW s.bind.dataOffset b) := rfl

end Sys2Proof.Machine
end

