-- ==== Sys2Proof/Laws/Port.lean ====
section
/-! SUPPORT. The port is this machine's one memory-like latch: every write keeps it a `PORT_W`-bit value, and a second
write through the same mask leaves nothing of the first. -/

namespace Sys2Proof.Machine

theorem portWrite_keeps_width (s : State) (m v : Nat) : (s.portWrite m v).port < 2 ^ (s.portWrite m v).params.portW :=
  BitVec.isLt _

theorem driveByte_keeps_width (s : State) (b : Byte) : (s.driveByte b).port < 2 ^ (s.driveByte b).params.portW :=
  portWrite_keeps_width _ _ _

theorem portMerge_portMerge (w p m v v' : Nat) : portMerge w (portMerge w p m v) m v' = portMerge w p m v' := by
  unfold portMerge
  congr 1
  rw [BitVec.ofNat_toNat, BitVec.setWidth_eq]
  ext i hi
  simp only [BitVec.getElem_or, BitVec.getElem_and, BitVec.getElem_not]
  cases (BitVec.ofNat w m)[i] <;> simp

/-- The levels a trace leaves, one event at a time. -/
theorem lastLevel_append (p : OutPin) (io : List Event) (e : Event) :
    lastLevel p (io ++ [e]) =
      match e with
      | .pinWrite q l => if q = p then some l else lastLevel p io
      | _ => lastLevel p io := by
  unfold lastLevel
  cases e with
  | pinWrite q l => by_cases h : q = p <;> simp [h]
  | _ => simp

end Sys2Proof.Machine
end

