-- ==== Sys2Proof/Laws/Step.lean ====
section
/-! SUPPORT. What a step can do, said once: `step s` answers `next t` exactly when `t` is one of the moves of the
controller from `s`. Later proofs split on the move and never unfold `step` or `exec`. -/

namespace Sys2Proof.Machine

/-- The controller takes its next row: no reset comes, the descriptor is supported, `seq` is at the row. -/
structure State.At (s : State) (l : Seq) : Prop where
  seq : s.seq = l
  noReset : s.resetIn = false
  supported : s.supported = true

/-- The moves from a state: the reset input, resting, the four acceptances, and the rows of the three step tables. -/
inductive Move (s : State) : State → Prop where
  | resetInput (h : s.resetIn = true) (q : s.seq = .rest) : Move s s.afterReset
  | rests (h : s.resetIn = false) (q : s.seq = .rest) (c : s.commands = []) : Move s s
  | init (w : CommandWord) (cs : List CommandWord) (a : s.At .rest) (c : s.commands = w :: cs)
      (d : decode w = .ok .init) :
      Move s (((s.withCommands cs).setState .idle).deliver (.status .ok))
  | start (w : CommandWord) (cs : List CommandWord) (a : s.At .rest) (c : s.commands = w :: cs)
      (d : decode w = .ok .start) :
      Move s ((s.withCommands cs).goto .st1)
  | send (data : List Byte) (w : CommandWord) (cs : List CommandWord) (a : s.At .rest) (c : s.commands = w :: cs)
      (d : decode w = .ok (.send data)) :
      Move s ((s.withCommands cs).capture data)
  | finish (w : CommandWord) (cs : List CommandWord) (a : s.At .rest) (c : s.commands = w :: cs)
      (d : decode w = .ok .finish) :
      Move s ((s.withCommands cs).goto .fn0)
  | st1 (a : s.At .st1) : Move s ((s.pinWrite .clock .low).goto .st2)
  | st2 (a : s.At .st2) : Move s ((s.pinWrite .program .low).goto .st3)
  | st3 (a : s.At .st3) : Move s ((s.delay s.params.tResetMs).goto .st4)
  | st4 (a : s.At .st4) : Move s ((s.pinWrite .program .high).goto .st5)
  | st5High (a : s.At .st5) (l : s.readLevel .init = .high) : Move s ((s.afterRead .init).goto .st6)
  | st5Low (a : s.At .st5) (l : s.readLevel .init = .low) : Move s ((s.afterRead .init).goto .st5d)
  | st5d (a : s.At .st5d) : Move s ((s.delay s.params.tPollMs).goto .st5)
  | st6 (a : s.At .st6) : Move s ((s.setState .configuring).deliver (.status .ok))
  | sd0More (a : s.At .sd0) (l : s.idx < s.len) : Move s (s.goto .sda)
  | sd0End (a : s.At .sd0) (l : s.len ≤ s.idx) : Move s (s.goto .sd9)
  | sda (a : s.At .sda) : Move s ((s.clock .low).goto .sdb)
  | sdb (b : Byte) (a : s.At .sdb) (r : s.bufRead s.idx = some b) : Move s ((s.driveByte b).goto .sdc)
  | sdc (a : s.At .sdc) : Move s (((s.clock .high).setIdx (s.idx + 1)).goto .sd0)
  | sd9 (a : s.At .sd9) : Move s (s.deliver (.status .ok))
  | fn0 (a : s.At .fn0) : Move s ((s.setCnt s.params.nDummy).goto .fn1)
  | fn1Spent (a : s.At .fn1) (c : s.cnt = 0) : Move s (s.goto .fn3)
  | fn1More (a : s.At .fn1) (c : 0 < s.cnt) : Move s (s.goto .fn2)
  | fn2High (a : s.At .fn2) (l : s.readLevel .done = .high) : Move s ((s.afterRead .done).goto .fn3)
  | fn2Low (a : s.At .fn2) (l : s.readLevel .done = .low) : Move s ((s.afterRead .done).goto .fna)
  | fna (a : s.At .fna) : Move s ((s.clock .low).goto .fnb)
  | fnb (a : s.At .fnb) : Move s ((s.driveByte s.params.dummyByte).goto .fnc)
  | fnc (a : s.At .fnc) (c : 0 < s.cnt) : Move s (((s.clock .high).setCnt (s.cnt - 1)).goto .fn1)
  | fn3High (a : s.At .fn3) (l : s.readLevel .done = .high) : Move s (((s.afterRead .done).setState .done).goto .fn9)
  | fn3Low (a : s.At .fn3) (l : s.readLevel .done = .low) : Move s ((s.afterRead .done).goto .fn9)
  | fn9 (a : s.At .fn9) : Move s (s.deliver (.state s.state))

theorem Level.ne_high_iff (l : Level) : l ≠ .high ↔ l = .low := by cases l <;> simp

/-- A command runs on a supported descriptor only. -/
theorem exec_next_supported {i : Instr} {s t : State} (h : exec i s = .next t) : s.supported = true := by
  by_contra hs
  cases i <;> simp [exec, execInit, execStart, execSend, execFinish, onSupported, hs] at h

/-- Every move is taken. -/
theorem Move.step {s t : State} (m : Move s t) : step s = .next t := by
  cases m with
  | resetInput h q => simp [Machine.step, h, Machine.resetInput, q]
  | rests h q c => simp [Machine.step, h, State.inProgress, q, fetch, c]
  | init w cs a c d | start w cs a c d | send data w cs a c d | finish w cs a c d =>
    simp only [Machine.step, a.noReset, State.inProgress, a.seq, fetch, c, d, Bool.false_eq_true, if_false]
    have hs : (s.withCommands cs).supported = true := a.supported
    simp only [exec, execInit, execStart, execSend, execFinish, onSupported, hs, State.withCommands_seq, a.seq, if_true]
  | st1 a | st2 a | st3 a | st4 a | st5High a l | st5Low a l | st5d a | st6 a =>
    simp only [Machine.step, a.noReset, State.inProgress, a.seq, Bool.false_eq_true, if_false]
    simp_all [exec, execStart, onSupported, a.seq, a.supported]
  | sdb b a r =>
    simp only [Machine.step, a.noReset, State.inProgress, a.seq, Bool.false_eq_true, if_false]
    simp only [exec, execSend, onSupported, a.supported, a.seq, if_true, sendRow, r, reduceCtorEq, if_false]
  | sd0More a l | sd0End a l | sda a | sdc a | sd9 a =>
    simp only [Machine.step, a.noReset, State.inProgress, a.seq, Bool.false_eq_true, if_false]
    simp_all [exec, execSend, onSupported, sendRow, a.seq, a.supported, Nat.not_lt.2]
  | fn0 a | fn1Spent a c | fn1More a c | fn2High a l | fn2Low a l | fna a | fnb a | fnc a c | fn3High a l | fn3Low a l | fn9 a =>
    simp only [Machine.step, a.noReset, State.inProgress, a.seq, Bool.false_eq_true, if_false]
    simp_all [exec, execFinish, onSupported, State.reread, Nat.pos_iff_ne_zero, a.seq, a.supported]

/-- Nothing else is taken. -/
theorem move_of_step {s t : State} (h : step s = .next t) : Move s t := by
  by_cases hr : s.resetIn = true
  · simp only [Machine.step, hr, if_true, resetInput] at h
    split at h
    · cases h; exact .resetInput hr ‹_›
    · cases h
  have hr : s.resetIn = false := by simpa using hr
  by_cases q : s.seq = .rest
  · simp only [Machine.step, hr, State.inProgress, q, fetch, Bool.false_eq_true, if_false] at h
    cases c : s.commands with
    | nil => simp only [c] at h; cases h; exact .rests hr q c
    | cons w cs =>
      cases d : decode w with
      | error e => simp only [c, d] at h; cases h
      | ok i =>
        simp only [c, d] at h
        have a : s.At .rest := ⟨q, hr, exec_next_supported (s := s.withCommands cs) h⟩
        have hs : (s.withCommands cs).supported = true := a.supported
        cases i <;> simp only [exec, execInit, execStart, execSend, execFinish, onSupported, hs,
          State.withCommands_seq, q, if_true] at h <;> cases h
        · exact .init w cs a c d
        · exact .start w cs a c d
        · exact .send _ w cs a c d
        · exact .finish w cs a c d
  · have hs : s.supported = true := by
      have : ∃ i, s.inProgress = some i := by
        cases hq : s.seq <;> simp_all [State.inProgress]
      obtain ⟨i, hi⟩ := this
      exact exec_next_supported (i := i) (by simpa [Machine.step, hr, hi] using h)
    cases hq : s.seq with
    | rest => exact absurd hq q
    | st1 | st2 | st3 | st4 | st5d | st6 =>
      simp only [Machine.step, hr, State.inProgress, hq, Bool.false_eq_true, if_false] at h
      simp only [exec, execStart, onSupported, hs, hq, if_true] at h
      cases h
      constructor; exact ⟨hq, hr, hs⟩
    | st5 =>
      simp only [Machine.step, hr, State.inProgress, hq, Bool.false_eq_true, if_false] at h
      simp only [exec, execStart, onSupported, hs, hq, if_true] at h
      cases h
      split
      · exact .st5High ⟨hq, hr, hs⟩ ‹_›
      · exact .st5Low ⟨hq, hr, hs⟩ ((Level.ne_high_iff _).1 ‹_›)
    | sda | sdc | sd9 =>
      simp only [Machine.step, hr, State.inProgress, hq, Bool.false_eq_true, if_false] at h
      simp only [exec, execSend, onSupported, hs, hq, if_true, sendRow, reduceCtorEq, if_false] at h
      cases h
      constructor; exact ⟨hq, hr, hs⟩
    | sd0 =>
      simp only [Machine.step, hr, State.inProgress, hq, Bool.false_eq_true, if_false] at h
      simp only [exec, execSend, onSupported, hs, hq, if_true, sendRow, reduceCtorEq, if_false] at h
      cases h
      split
      · exact .sd0More ⟨hq, hr, hs⟩ ‹_›
      · exact .sd0End ⟨hq, hr, hs⟩ (by omega)
    | sdb =>
      simp only [Machine.step, hr, State.inProgress, hq, Bool.false_eq_true, if_false] at h
      simp only [exec, execSend, onSupported, hs, hq, if_true, sendRow, reduceCtorEq, if_false] at h
      split at h
      · cases h; exact .sdb _ ⟨hq, hr, hs⟩ ‹_›
      · cases h
    | fn0 | fna | fnb | fn9 =>
      simp only [Machine.step, hr, State.inProgress, hq, Bool.false_eq_true, if_false] at h
      simp only [exec, execFinish, onSupported, hs, hq, if_true] at h
      cases h
      constructor; exact ⟨hq, hr, hs⟩
    | fn1 =>
      simp only [Machine.step, hr, State.inProgress, hq, Bool.false_eq_true, if_false] at h
      simp only [exec, execFinish, onSupported, hs, hq, if_true] at h
      cases h
      split
      · exact .fn1Spent ⟨hq, hr, hs⟩ ‹_›
      · exact .fn1More ⟨hq, hr, hs⟩ (by omega)
    | fn2 =>
      simp only [Machine.step, hr, State.inProgress, hq, Bool.false_eq_true, if_false] at h
      simp only [exec, execFinish, onSupported, hs, hq, if_true] at h
      cases h
      split
      · exact .fn2High ⟨hq, hr, hs⟩ ‹_›
      · exact .fn2Low ⟨hq, hr, hs⟩ ((Level.ne_high_iff _).1 ‹_›)
    | fnc =>
      simp only [Machine.step, hr, State.inProgress, hq, Bool.false_eq_true, if_false] at h
      simp only [exec, execFinish, onSupported, hs, hq, if_true] at h
      split at h
      · cases h
      · cases h; exact .fnc ⟨hq, hr, hs⟩ (by omega)
    | fn3 =>
      simp only [Machine.step, hr, State.inProgress, hq, Bool.false_eq_true, if_false] at h
      simp only [exec, execFinish, onSupported, hs, hq, if_true, State.reread] at h
      cases h
      split
      · exact .fn3High ⟨hq, hr, hs⟩ ‹_›
      · exact .fn3Low ⟨hq, hr, hs⟩ ((Level.ne_high_iff _).1 ‹_›)

theorem step_eq_next_iff {s t : State} : step s = .next t ↔ Move s t := ⟨move_of_step, Move.step⟩

/-! ### Runs -/

theorem steps_move {n : Nat} {s t : State} (m : Move s t) : steps (n + 1) s = steps n t := by
  simp [steps, m.step]

theorem steps_add {a b : Nat} {s t : State} (h : steps a s = .next t) : steps (a + b) s = steps b t := by
  induction a generalizing s with
  | zero => simp only [steps, Host.Outcome.next.injEq] at h; simp [h]
  | succ a ih =>
    rw [Nat.add_right_comm]
    simp only [steps] at h ⊢
    cases e : step s <;> simp only [e, reduceCtorEq] at h ⊢
    exact ih h

/-! ### Reads of a pin whose next level the script gives -/

theorem State.readLevel_init_cons {s : State} {l : Level} {ls : List Level} (h : s.initIn = l :: ls) :
    s.readLevel .init = l := by
  simp [State.readLevel, State.script, h]

theorem State.readLevel_done_cons {s : State} {l : Level} {ls : List Level} (h : s.doneIn = l :: ls) :
    s.readLevel .done = l := by
  simp [State.readLevel, State.script, h]

end Sys2Proof.Machine
end

