-- ==== Sys2Proof/Tests/Slice0.lean ====
section
/-! SUPPORT. Own tests: the words of the command table, the smoke of the well-formedness checks, the spec's vectors
(95_test_vectors.md) on single steps, and for every statement with hypotheses a state and operands that meet them. -/

namespace Sys2Proof.Tests

open Sys2Proof Sys2Proof.Machine

/-! ### States to test on -/

/-- The reset machine with the sequencer at a label. -/
def atLabel (l : Seq) : State := { State.reset with seq := l }

/-- A sixteen-bit port at 0xA5A5 with the window at bit 4 (vector SD-5). -/
def wide (s : State) : State :=
  { s with params := Params.reference 16, bind := { s.bind with dataOffset := 4 }, port := 0xA5A5 }

/-- A SEND of one byte in progress at a label; the window already holds the byte. -/
def sending (l : Seq) : State := { atLabel l with buf := [0xA5], len := 1, port := 0xA5 }

/-- A FINISH in progress at a label, one dummy byte left to clock; the window already holds it. -/
def finishing (l : Seq) : State := { atLabel l with state := .configuring, cnt := 1, port := 0xFF, doneIn := [.low, .high] }

/-- A START in progress at a label. -/
def starting (l : Seq) (program : Level) (ready : Level) : State :=
  { atLabel l with progLevel := program, initIn := [ready] }

/-- The reset machine with commands on the channel and levels at its inputs. -/
def offered (is : List Instr) (ready done : List Level) : State :=
  { State.reset with commands := is.map encode, initIn := ready, doneIn := done }

/-! ### Decoding: words written out from R81 and vector B5 -/

theorem test_decode_init : decode ⟨0b00#2, 0, []⟩ = .ok .init := by rfl
theorem test_decode_start : decode ⟨0b01#2, 0, []⟩ = .ok .start := by rfl
theorem test_decode_send : decode ⟨0b10#2, 3, [0x01, 0xFF, 0x00]⟩ = .ok (.send [0x01, 0xFF, 0x00]) := by rfl
theorem test_decode_finish : decode ⟨0b11#2, 0, []⟩ = .ok .finish := by rfl

/-- The table's match values 0x0, 0x1, 0x2, 0x3. -/
theorem test_decode_table :
    [0, 1, 2, 3].map (decodeTableWord 8) = [some .init, some .start, some (.send []), some .finish] := by decide

/-- U11: a length beyond the buffer is rejected; so are operands on a C0 command. -/
theorem test_decode_rejects :
    decode ⟨0b10#2, 4, [0x01, 0xFF, 0x00]⟩ = .error .lengthMismatch ∧
    decode ⟨0b00#2, 1, [0x01]⟩ = .error .operandsOnC0 := ⟨rfl, rfl⟩

/-! ### Well-formedness: an ill-formed term for each check -/

theorem test_wf_words :
    CommandWord.noOperands ⟨0b00#2, 1, []⟩ = false ∧ CommandWord.noOperands ⟨0b00#2, 0, [0x42]⟩ = false ∧
    CommandWord.lengthMatches ⟨0b10#2, 2, [0x42]⟩ = false ∧ CommandWord.wf ⟨0b11#2, 1, [0x42]⟩ = false ∧
    CommandWord.wf ⟨0b10#2, 0, [0x42]⟩ = false ∧ CommandWord.wf ⟨0b10#2, 1, [0x42]⟩ = true := by decide

/-- Vector B6: each refused descriptor beside the nearest accepted one. -/
theorem test_wf_descriptors :
    (Params.reference 7).portWide = false ∧ (Params.reference 8).portWide = true ∧
    Bindings.offsetFits { resetBindings with dataOffset := 1 } (Params.reference 8) = false ∧
    Bindings.offsetFits { resetBindings with dataOffset := 9 } (Params.reference 16) = false ∧
    Bindings.offsetFits { resetBindings with dataOffset := 8 } (Params.reference 16) = true ∧
    Bindings.pinsDistinct { resetBindings with clockPin := resetBindings.programPin } = false ∧
    Bindings.pinsOutsideWindow { resetBindings with donePin := .portBit 0 7 } = false ∧
    Bindings.pinsOutsideWindow { resetBindings with donePin := .portBit 0 8 } = true ∧
    Bindings.pinsOutsideWindow { resetBindings with donePin := .portBit 1 7 } = true ∧
    resetBindings.supported (Params.reference 8) = true := by decide

/-! ### Masks and values: vectors SB-1, SB-3, SB-4, SB-7, SB-8, SB-9 -/

theorem test_masks :
    dataMask 8 0 = 0xFF ∧ dataMask 16 8 = 0xFF00 ∧ dataMask 16 3 = 0x07F8 ∧ dataMask 32 13 = 0x001FE000 ∧
    dataMask 12 4 = 0xFF0 ∧ dataValue 16 8 0xAB = 0xAB00 ∧ dataValue 32 13 0x81 = 0x00102000 ∧
    dataValue 12 2 0xC3 = 0x30C := by decide

theorem test_merges :
    portMerge 8 0x00 0xFF 0xA5 = 0xA5 ∧ portMerge 16 0x1234 0xFF00 0xAB00 = 0xAB34 ∧
    portMerge 16 0xFFFF 0x07F8 0x0000 = 0xF807 ∧ portMerge 32 0xDEADBEEF 0x001FE000 0x00102000 = 0xDEB03EEF ∧
    portMerge 12 0xFFF 0xFF0 0x000 = 0x00F ∧ portMerge 12 0x000 0x3FC 0x30C = 0x30C := by decide

/-! ### Single steps of the commands -/

/-- Vector I-2: INIT after a timeout leaves the clock HIGH and the window at 0xFF, and issues no event. -/
theorem test_init_after_timeout :
    exec .init { State.reset with state := .configuring, clkLevel := .high, port := 0xFF } =
      .next { State.reset with state := .idle, clkLevel := .high, port := 0xFF, results := [.status .ok] } := by rfl

/-- Vector ST-8: the first event of START is the clock LOW, whatever the clock was. -/
theorem test_start_clock_low : ∃ t, exec .start { atLabel .st1 with clkLevel := .high } = .next t ∧
    t.clkLevel = .low ∧ t.io = [.pinWrite .clock .low] ∧ t.seq = .st2 := ⟨_, rfl, by decide⟩

/-- Vector ST-2: a LOW read of `init` is followed by the poll delay. -/
theorem test_start_low_read : ∃ t, exec .start (starting .st5 .high .low) = .next t ∧
    t.io = [.pinRead .init .low] ∧ t.seq = .st5d ∧ t.state = .idle := ⟨_, rfl, by decide⟩

/-- Vector SD-5: the first byte, 0xAA, on a port at 0xA5A5 with the window at bit 4. -/
theorem test_send_window : ∃ t, exec (.send [0xAA]) (wide { atLabel .sdb with buf := [0xAA], len := 1 }) = .next t ∧
    t.port = 0xAAA5 ∧ t.io = [.portWrite 0x0FF0 0x0AA0] := ⟨_, rfl, by decide⟩

/-- Vector SD-1: SEND of no byte goes from its test to its end. -/
theorem test_send_nothing : ∃ t, exec (.send []) (atLabel .sd0) = .next t ∧ t.seq = .sd9 ∧ t.io = [] := ⟨_, rfl, by decide⟩

/-- Vector FN-8: a LOW re-read leaves `Configuring`. -/
theorem test_finish_glitch : ∃ t, exec .finish { finishing .fn3 with doneIn := [.low] } = .next t ∧
    t.state = .configuring ∧ t.seq = .fn9 := ⟨_, rfl, by decide⟩

/-- Vector FN-11: out of contract, FINISH from `Done` with a LOW re-read returns `Done`. -/
theorem test_finish_returns_state : ∃ t, exec .finish { finishing .fn9 with state := .done } = .next t ∧
    t.results = [.state .done] ∧ t.seq = .rest := ⟨_, rfl, by decide⟩

/-- The table's words are the first instruction after reset. -/
theorem test_first_step : ∃ t, step (State.reset.withFetchWord 8 1) = .next t ∧ t.seq = .st1 ∧ t.commands = [] :=
  ⟨_, rfl, by decide⟩

/-- The delivered stream of vector A1, from a HIGH clock. -/
theorem test_delivered_scenario :
    delivered (Params.reference 8) resetBindings .high 0x12 (sendTrace (Params.reference 8) resetBindings [0x01, 0xFF, 0x00])
      = [0x01, 0xFF, 0x00] := by decide

/-! ### Witnesses: the hypotheses of each statement can be met -/

theorem test_witness_step_runs_next :
    (offered [.start] [] []).seq = .rest ∧ (offered [.start] [] []).resetIn = false ∧
    (offered [.start] [] []).commands = encode .start :: [] ∧ decode (encode .start) = .ok .start := ⟨rfl, rfl, rfl, rfl⟩

theorem test_witness_step_continues :
    (atLabel .st5).resetIn = false ∧ (atLabel .st5).inProgress = some .start ∧
    (sending .sdb).inProgress = some (.send [0xA5]) ∧ (atLabel .fn9).inProgress = some .finish := by decide

theorem test_witness_rests_or_refuses :
    State.reset.seq = .rest ∧ State.reset.resetIn = false ∧ State.reset.commands = [] ∧
    decode ⟨0b10#2, 1, []⟩ = .error .lengthMismatch ∧
    ({ State.reset with commands := [⟨0b10#2, 1, []⟩] } : State).commands = ⟨0b10#2, 1, []⟩ :: [] := ⟨rfl, rfl, rfl, rfl, rfl⟩

theorem test_witness_reset_input :
    ({ State.reset with resetIn := true } : State).resetIn = true ∧ ({ State.reset with resetIn := true } : State).seq = .rest ∧
    ({ atLabel .st5 with resetIn := true } : State).resetIn = true ∧ ({ atLabel .st5 with resetIn := true } : State).seq ≠ .rest := by
  decide

theorem test_witness_second_command :
    (atLabel .st5).supported = true ∧ (atLabel .st5).inProgress = some .start ∧ Instr.send [0x01] ≠ .start ∧
    (sending .sda).inProgress = some (.send [0xA5]) ∧ Instr.send [0x5A] ≠ .send [0xA5] := by decide

theorem test_witness_unsupported :
    ({ State.reset with bind := { resetBindings with dataOffset := 1 } } : State).supported = false ∧
    State.reset.supported = true := by decide

/-- The smallest port, and a window at the top of a wider one, at both of its ends. -/
theorem test_witness_windows :
    0 + 8 ≤ 8 ∧ 8 + 8 ≤ 16 ∧ (wide State.reset).supported = true ∧ (0 : Nat) < 8 ∧ (7 : Nat) < 8 ∧
    (3 < 16 ∧ (3 < 4 ∨ 4 + 8 ≤ 3)) ∧ (12 < 16 ∧ (12 < 4 ∨ 4 + 8 ≤ 12)) := by decide

/-- A step that writes the port, with bits 3 and 12 beside the window. -/
theorem test_witness_port_bits : ∃ t, step (wide (sending .sdb)) = .next t ∧
    t.io = (wide (sending .sdb)).io ++ [.portWrite 0x0FF0 0x0A50] ∧
    (wide (sending .sdb)).bind.dataOffset = 4 ∧ (wide (sending .sdb)).params.portW = 16 := ⟨_, rfl, by decide⟩

theorem test_witness_init : (atLabel .rest).supported = true ∧ (atLabel .rest).seq = .rest := by decide

/-- Every row of START's table. -/
theorem test_witness_start_rows :
    ∀ l ∈ [Seq.rest, .st1, .st2, .st3, .st4, .st5, .st5d, .st6], (atLabel l).supported = true ∧ (atLabel l).seq = l := by
  decide

/-- Ready at the first read, and at the second. -/
theorem test_witness_start_run :
    ((offered [.start] [.high] []).Offers .start [] ∧
      (offered [.start] [.high] []).initIn = List.replicate 0 .low ++ .high :: []) ∧
    ((offered [.start] [.low, .high] []).Offers .start [] ∧
      (offered [.start] [.low, .high] []).initIn = List.replicate 1 .low ++ .high :: []) := by decide

/-- The first step and the last that `k = 2` LOW reads cover. -/
theorem test_witness_start_hang :
    (offered [.start] [.low, .low] []).Offers .start [] ∧
    (offered [.start] [.low, .low] []).initIn = List.replicate 2 .low ++ [] ∧
    (0 < 1 ∧ 1 ≤ 2 * 2 + 5) ∧ (0 < 9 ∧ 9 ≤ 2 * 2 + 5) := by decide

theorem test_witness_start_writes_state :
    (∃ t, (atLabel .st6).inProgress = some .start ∧ step (atLabel .st6) = .next t) ∧
    (∃ t, (starting .st5 .high .high).inProgress = some .start ∧ step (starting .st5 .high .high) = .next t ∧
      t.seq = .st6) := ⟨⟨_, rfl, rfl⟩, ⟨_, rfl, rfl, rfl⟩⟩

/-- Every row of SEND's table; at `SDB` the only index of a one-byte buffer. -/
theorem test_witness_send_rows :
    (∀ l ∈ [Seq.rest, .sd0, .sda, .sdb, .sdc, .sd9],
      (sending l).supported = true ∧ (sending l).seq = l ∧ (sending l).buf = [0xA5]) ∧
    (sending .sdb).idx < (sending .sdb).len ∧ ([0xA5] : List Byte)[(sending .sdb).idx]? = some 0xA5 := by decide

/-- SEND of nothing, and of a byte. -/
theorem test_witness_send_run :
    (offered [.send []] [] []).Offers (.send []) [] ∧ (offered [.send [0xA5]] [] []).Offers (.send [0xA5]) [] := by decide

theorem test_witness_chunks :
    (offered [.send [0x11], .send [0x22]] [] []).Offers (.send [0x11]) (encode (.send [0x22]) :: []) := by decide

theorem test_witness_send_state : ∃ t, exec (.send [0xA5]) (sending .sdb) = .next t := ⟨_, rfl⟩

/-- Every row of FINISH's table. -/
theorem test_witness_finish_rows :
    (∀ l ∈ [Seq.rest, .fn0, .fn1, .fn2, .fna, .fnb, .fnc, .fn3, .fn9],
      (finishing l).supported = true ∧ (finishing l).seq = l) ∧ 0 < (finishing .fnc).cnt := by decide

/-- No dummy byte and one, with a budget of two; and the budget spent. -/
theorem test_witness_finish_runs :
    (∀ n ∈ [0, 1],
      ({ offered [.finish] [] (List.replicate n .low ++ [.high, .low]) with
        params := { Params.reference 8 with nDummy := 2 } } : State).Offers .finish [] ∧ n < 2) ∧
    ({ offered [.finish] [] (List.replicate 2 .low ++ [.high]) with
      params := { Params.reference 8 with nDummy := 2 } } : State).Offers .finish [] := by decide

/-- Success after no dummy byte and after 1023, with the reference budget. -/
theorem test_witness_finish_success (n : Nat) (_ : n ∈ [0, 1023]) :
    (offered [.finish] [] (List.replicate n .low ++ .high :: .high :: [])).Offers .finish [] ∧
    (offered [.finish] [] (List.replicate n .low ++ .high :: .high :: [])).params.nDummy = 1024 ∧
    (offered [.finish] [] (List.replicate n .low ++ .high :: .high :: [])).doneIn
      = List.replicate n .low ++ .high :: .high :: [] := ⟨⟨rfl, rfl, (by decide : State.reset.supported = true), rfl⟩, rfl, rfl⟩

/-- Success by the re-read alone, and the timeout. -/
theorem test_witness_finish_budget (levels : List Level)
    (_ : levels = List.replicate 1024 .low ++ .high :: [] ∨ levels = List.replicate 1025 .low ++ []) :
    (offered [.finish] [] levels).Offers .finish [] ∧ (offered [.finish] [] levels).params.nDummy = 1024 ∧
    (offered [.finish] [] levels).doneIn = levels := ⟨⟨rfl, rfl, (by decide : State.reset.supported = true), rfl⟩, rfl, rfl⟩

/-- The invariant holds, and a step is taken, at the rows its clauses speak of. -/
theorem test_witness_invariant_send : (sending .sdc).Inv ∧ ∃ t, step (sending .sdc) = .next t ∧
    t.io = (sending .sdc).io ++ [.pinWrite .clock .high] := ⟨by constructor <;> decide, _, rfl, rfl⟩

theorem test_witness_invariant_finish : (finishing .fnc).Inv ∧ ∃ t, step (finishing .fnc) = .next t ∧
    t.io = (finishing .fnc).io ++ [.pinWrite .clock .high] := ⟨by constructor <;> decide, _, rfl, rfl⟩

theorem test_witness_invariant_start : (starting .st5 .high .low).Inv ∧ (starting .st5 .high .low).seq ≠ .rest ∧
    (starting .st5 .high .low).resetIn = false ∧ ∃ t, step (starting .st5 .high .low) = .next t :=
  ⟨by constructor <;> decide, by decide, rfl, _, rfl⟩

/-- A change of `state` by each writer. -/
theorem test_witness_lifecycle_writers :
    (∃ t, step { offered [.init] [] [] with state := .done } = .next t ∧ t.state ≠ .done) ∧
    (∃ t, step { State.reset with state := .done, resetIn := true } = .next t ∧ t.state ≠ .done) ∧
    (∃ t, step (atLabel .st6) = .next t ∧ t.state ≠ .idle) ∧
    (∃ t, step { finishing .fn3 with doneIn := [.high] } = .next t ∧ t.state ≠ .configuring) :=
  ⟨⟨_, rfl, by decide⟩, ⟨_, rfl, by decide⟩, ⟨_, rfl, by decide⟩, ⟨_, rfl, by decide⟩⟩

/-- A busy step that stays in the command, and one that returns. -/
theorem test_witness_blocked :
    ((sending .sda).seq ≠ .rest ∧ ∃ t, step (sending .sda) = .next t ∧ t.seq ≠ .rest) ∧
    ((finishing .fn9).seq ≠ .rest ∧ ∃ t, step (finishing .fn9) = .next t ∧ t.seq = .rest) :=
  ⟨⟨by decide, _, rfl, by decide⟩, ⟨by decide, _, rfl, rfl⟩⟩

theorem test_witness_inputs : (atLabel .st4).seq ≠ .st5 ∧ (atLabel .fna).seq ≠ .fn2 ∧ (atLabel .fna).seq ≠ .fn3 := by decide

theorem test_witness_lifecycle_hidden :
    (atLabel .st5).hideLifecycle = ({ atLabel .st5 with state := .done } : State).hideLifecycle := by decide

/-- Program P1 in small: one chunk, ready at the first read, one dummy byte. -/
theorem test_witness_configuration :
    (offered [.init, .start, .send [0x01], .finish] [.high] [.low, .high, .high]).Offers .init
      (encode .start :: ([[0x01]].map fun d => encode (.send d)) ++ encode .finish :: []) ∧
    1 < (offered [.init, .start, .send [0x01], .finish] [.high] [.low, .high, .high]).params.nDummy ∧
    (offered [.init, .start, .send [0x01], .finish] [.high] [.low, .high, .high]).initIn
      = List.replicate 0 .low ++ .high :: [] ∧
    (offered [.init, .start, .send [0x01], .finish] [.high] [.low, .high, .high]).doneIn
      = List.replicate 1 .low ++ .high :: .high :: [] := by decide

end Sys2Proof.Tests
end

/-! Proofs of the family 10_state: the port bits outside the data window (R42, R53). A step either drives one byte on
the window of a supported descriptor, or leaves the port alone and issues no `PortWrite`. -/

namespace Sys2Proof.Machine

/-! ### The masked merge and the mask, bit by bit -/

theorem testBit_portMerge {w i : Nat} (p m v : Nat) (hi : i < w) :
    (portMerge w p m v).testBit i = if m.testBit i then v.testBit i else p.testBit i := by
  unfold portMerge
  simp only [BitVec.testBit_toNat, BitVec.getLsbD_or, BitVec.getLsbD_and, BitVec.getLsbD_not, BitVec.getLsbD_ofNat, hi]
  cases m.testBit i <;> simp

/-- With the window inside the port, no bit of the mask is shifted out (R51). -/
theorem testBit_dataMask {w off : Nat} (i : Nat) (hw : off + 8 ≤ w) :
    (dataMask w off).testBit i = true ↔ off ≤ i ∧ i < off + 8 := by
  unfold dataMask
  have ones : Nat.testBit 0xFF (i - off) = decide (i - off < 8) := Nat.testBit_two_pow_sub_one 8 (i - off)
  simp only [BitVec.testBit_toNat, BitVec.getLsbD_shiftLeft, BitVec.getLsbD_ofNat, ones, Bool.and_eq_true,
    Bool.not_eq_true', decide_eq_true_eq, decide_eq_false_iff_not]
  omega

/-- The window of a supported descriptor lies inside the port (R8, D7). -/
theorem State.window_fits_of_supported {s : State} (hs : s.supported = true) :
    s.bind.dataOffset + 8 ≤ s.params.portW := by
  simp only [State.supported, Bindings.supported, Bindings.offsetFits, Bool.and_eq_true, decide_eq_true_eq] at hs
  obtain ⟨⟨⟨-, hfits⟩, -⟩, -⟩ := hs
  exact hfits

/-- Driving a byte leaves the port bits outside the window as they were (R53). -/
theorem State.driveByte_port_testBit_outside {s : State} {i : Nat} (b : Byte) (hs : s.supported = true)
    (hi : i < s.params.portW) (hout : i < s.bind.dataOffset ∨ s.bind.dataOffset + 8 ≤ i) :
    (s.driveByte b).port.testBit i = s.port.testBit i := by
  have unmasked : ¬ (dataMask s.params.portW s.bind.dataOffset).testBit i = true := by
    rw [testBit_dataMask i (s.window_fits_of_supported hs)]
    omega
  rw [State.driveByte_eq, State.portWrite_port, testBit_portMerge _ _ _ hi, if_neg unmasked]

/-! ### What a step does to the port -/

/-- The port and the event history after a move: one byte was driven on the window, at `SDB` or `FNB`, or the port is
as before and the move issued no `PortWrite`. -/
theorem Move.drives_byte_or_leaves_port {s t : State} (move : Move s t) :
    (s.supported = true ∧ ∃ b, t.port = (s.driveByte b).port ∧ t.io = (s.driveByte b).io) ∨
    (t.port = s.port ∧ ∀ m v, t.io ≠ s.io ++ [.portWrite m v]) := by
  cases move with
  | sdb b a => exact .inl ⟨a.supported, b, rfl, rfl⟩
  | fnb a => exact .inl ⟨a.supported, s.params.dummyByte, rfl, rfl⟩
  -- The moves that append nothing to the history.
  | resetInput | rests | init | start | send | finish | st6 | sd0More | sd0End | sd9 | fn0 | fn1Spent | fn1More | fn9 =>
    exact .inr ⟨rfl, by simp⟩
  -- The moves that append the event of a pin or of a delay.
  | st1 | st2 | st3 | st4 | st5High | st5Low | st5d | sda | sdc | fn2High | fn2Low | fna | fnc | fn3High | fn3Low =>
    right; simp

/-- Settles O16, by the two kinds of step: a byte driven on the window through the mask of R51, or the port untouched. -/
theorem portBitsOutsideTheWindowUndisturbed : Obligations.PortBitsOutsideTheWindowUndisturbed := by
  intro s t hstep
  obtain ⟨hs, b, hport, hio⟩ | ⟨hport, hio⟩ := (move_of_step hstep).drives_byte_or_leaves_port
  · constructor
    · intro i hi hout
      rw [hport, s.driveByte_port_testBit_outside b hs hi hout]
    · intro m v hmv i
      have hm : dataMask s.params.portW s.bind.dataOffset = m := by
        simp only [hio, State.driveByte_eq, State.portWrite_io, List.append_cancel_left_eq, List.cons.injEq,
          Event.portWrite.injEq] at hmv
        obtain ⟨⟨hmask, -⟩, -⟩ := hmv
        exact hmask
      rw [← hm, testBit_dataMask i (s.window_fits_of_supported hs)]
  · constructor
    · intro i _ _
      rw [hport]
    · intro m v hmv
      exact absurd hmv (hio m v)

end Sys2Proof.Machine

/-! Proofs of the family 20_memory: the port write of a data byte (R50 to R52). The masked merge takes the value's bits
inside the mask; the mask and the value of R51 put bit `i` of the byte on port bit `data_offset + i`. -/

namespace Sys2Proof.Machine

/-! ### The masked merge as a whole -/

theorem portMerge_lt_two_pow (w p m v : Nat) : portMerge w p m v < 2 ^ w :=
  BitVec.isLt _

/-- "Bits of `v` outside `m` have no effect" (R52). -/
theorem portMerge_and_mask (w p m v : Nat) : portMerge w p m (v &&& m) = portMerge w p m v := by
  unfold portMerge
  rw [BitVec.ofNat_and, BitVec.and_assoc, BitVec.and_self]

/-! ### A data byte on the port, bit by bit -/

/-- With the window inside the port, no bit of the value is shifted out (R51). -/
theorem testBit_dataValue_offset_add {w off i : Nat} (b : Byte) (hw : off + 8 ≤ w) (hi : i < 8) :
    (dataValue w off b).testBit (off + i) = b.getLsbD i := by
  have inPort : off + i < w := by omega
  have inByteWord : i < w := by omega
  simp [dataValue, BitVec.testBit_toNat, inPort, inByteWord]

/-- Bit `i` of the byte is driven on port bit `off + i` (R50). -/
theorem testBit_portMerge_data_offset_add {w off i : Nat} (p : Nat) (b : Byte) (hw : off + 8 ≤ w) (hi : i < 8) :
    (portMerge w p (dataMask w off) (dataValue w off b)).testBit (off + i) = b.getLsbD i := by
  have masked : (dataMask w off).testBit (off + i) = true := (testBit_dataMask _ hw).2 (by omega)
  rw [testBit_portMerge _ _ _ (by omega), if_pos masked, testBit_dataValue_offset_add b hw hi]

/-- The port bits beside the window stay as they were (R52). -/
theorem testBit_portMerge_data_outside {w off i : Nat} (p : Nat) (b : Byte) (hw : off + 8 ≤ w) (hi : i < w)
    (hout : i < off ∨ off + 8 ≤ i) :
    (portMerge w p (dataMask w off) (dataValue w off b)).testBit i = p.testBit i := by
  have unmasked : ¬ (dataMask w off).testBit i = true := by
    rw [testBit_dataMask i hw]
    omega
  rw [testBit_portMerge _ _ _ hi, if_neg unmasked]

theorem getLsbD_window {off port i : Nat} (hi : i < 8) : (window off port).getLsbD i = port.testBit (off + i) := by
  simp only [window, BitVec.getLsbD_ofNat, Nat.testBit_shiftRight, hi, decide_true, Bool.true_and]

/-- The byte written is the byte read back through the window. -/
theorem window_portMerge_data {w off : Nat} (p : Nat) (b : Byte) (hw : off + 8 ≤ w) :
    window off (portMerge w p (dataMask w off) (dataValue w off b)) = b := by
  apply BitVec.eq_of_getLsbD_eq
  intro i hi
  rw [getLsbD_window hi, testBit_portMerge_data_offset_add p b hw hi]

/-! ### The obligations -/

/-- Settles O13: the merge bit by bit, and with the mask of R51 the bits inside and outside the window. -/
theorem portWriteMergesMaskedBits : Obligations.PortWriteMergesMaskedBits := by
  refine ⟨?frame, ?bits, ?maskedValue, ?dataWrite⟩
  case frame => exact fun _ _ _ => rfl
  case bits => exact fun _ p m v _ hi => testBit_portMerge p m v hi
  case maskedValue => exact fun w p m v => ⟨portMerge_and_mask w p m v, portMerge_lt_two_pow w p m v⟩
  case dataWrite =>
    exact fun _ _ p b hw =>
      ⟨window_portMerge_data p b hw, fun _ hi hout => testBit_portMerge_data_outside p b hw hi hout⟩

/-- Settles O15: a supported descriptor has its window inside the port, so every bit of the byte reaches it. -/
theorem dataBitDrivenOnOffsetBit : Obligations.DataBitDrivenOnOffsetBit := by
  intro s b i hs hi
  have windowFits := s.window_fits_of_supported hs
  rw [State.driveByte_eq, State.portWrite_port, testBit_portMerge_data_offset_add _ b windowFits hi]

end Sys2Proof.Machine

/-! Proofs of the family 40_initialize: INIT as a whole next state (R100, R103). Its acceptance writes `state` and
delivers `OK`; `seq` is already at `REST`, so the delivery writes nothing but the result. -/

namespace Sys2Proof.Machine

/-- On a supported descriptor a command is not refused for its descriptor (R8, R28). -/
theorem onSupported_of_supported {s : State} (k : Host.Outcome State Fault Refusal) (hs : s.supported = true) :
    onSupported s k = k :=
  if_pos hs

/-- A result delivered at `REST` leaves `seq` as it is (R103). -/
theorem State.deliver_of_rest {s : State} (r : Result) (hq : s.seq = .rest) :
    s.deliver r = { s with results := s.results ++ [r] } := by
  rw [State.deliver, ← hq]

/-- INIT at `REST`, in the operations of the model: one write of `state` and the delivery of `OK` (R100). -/
theorem exec_init_of_rest {s : State} (hs : s.supported = true) (hq : s.seq = .rest) :
    exec .init s = .next ((s.setState .idle).deliver (.status .ok)) := by
  simp only [exec, execInit, onSupported_of_supported _ hs, hq]

/-- Settles O17: INIT's acceptance, with a delivery at `REST` that writes only the results; the encoding is the
table's. -/
theorem initWritesIdleAndNothingElse : Obligations.InitWritesIdleAndNothingElse := by
  refine ⟨?encoding, ?acceptance⟩
  case encoding => rfl
  case acceptance =>
    intro s hs hq
    have stillAtRest : (s.setState .idle).seq = .rest := hq
    rw [exec_init_of_rest hs hq, State.deliver_of_rest _ stillAtRest, State.setState_results, State.setState]

end Sys2Proof.Machine

/-! Proofs of the family 41_start_config: the whole run of START (R117, R120) and its one write of `state` (R116). The
run is cut at the ready poll: the rows up to `ST5`, a round of `ST5` and `ST5D` for each LOW read, and from the HIGH
read to the return. -/

namespace Sys2Proof.Machine

/-! ### The operations of START keep the controller ready for its next row -/

theorem State.At.goto {s : State} {l : Seq} (a : s.At l) (next : Seq) : (s.goto next).At next :=
  ⟨rfl, a.noReset, a.supported⟩

theorem State.At.withCommands {s : State} {l : Seq} (a : s.At l) (cs : List CommandWord) : (s.withCommands cs).At l :=
  ⟨a.seq, a.noReset, a.supported⟩

theorem State.At.pinWrite {s : State} {l : Seq} (a : s.At l) (p : OutPin) (v : Level) : (s.pinWrite p v).At l := by
  constructor <;> simp [a.seq, a.noReset, a.supported]

theorem State.At.delay {s : State} {l : Seq} (a : s.At l) (ms : Nat) : (s.delay ms).At l :=
  ⟨a.seq, a.noReset, a.supported⟩

theorem State.At.afterRead {s : State} {l : Seq} (a : s.At l) (p : InPin) : (s.afterRead p).At l := by
  constructor <;> simp [a.seq, a.noReset, a.supported]

/-! ### The states a run of START passes through -/

/-- START, just accepted with the commands `cs` behind it, has come to its ready poll. -/
def State.atReadyPoll (s : State) (cs : List CommandWord) : State :=
  { s with
    commands := cs
    seq := .st5
    clkLevel := .low
    progLevel := .high
    io := s.io ++
      [.pinWrite .clock .low, .pinWrite .program .low, .delay s.params.tResetMs, .pinWrite .program .high] }

/-- START has read `init` LOW `k` times, each time with its poll delay, and `later` are the levels still to come. -/
def State.afterLowPolls (s : State) (k : Nat) (later : List Level) : State :=
  { s with
    initIn := later
    draws := s.draws + k
    io := s.io ++ (List.replicate k [.pinRead .init .low, .delay s.params.tPollMs]).flatten }

/-- START has read `init` HIGH and returned, and `later` are the levels still to come. -/
def State.afterReady (s : State) (later : List Level) : State :=
  { s with
    state := .configuring
    seq := .rest
    initIn := later
    draws := s.draws + 1
    io := s.io ++ [.pinRead .init .high]
    results := s.results ++ [.status .ok] }

theorem State.atReadyPoll_at {s : State} {cs : List CommandWord} (offered : s.Offers .start cs) :
    (s.atReadyPoll cs).At .st5 := by
  obtain ⟨-, hreset, hsupported, -⟩ := offered
  exact ⟨rfl, hreset, hsupported⟩

theorem State.At.afterLowPolls {s : State} {l : Seq} (a : s.At l) (k : Nat) (later : List Level) :
    (s.afterLowPolls k later).At l :=
  ⟨a.seq, a.noReset, a.supported⟩

theorem State.afterLowPolls_zero (s : State) : s.afterLowPolls 0 s.initIn = s := by
  simp [State.afterLowPolls]

theorem State.afterLowPolls_one_afterLowPolls (s : State) (k : Nat) (mid later : List Level) :
    (s.afterLowPolls 1 mid).afterLowPolls k later = s.afterLowPolls (k + 1) later := by
  simp [State.afterLowPolls, List.replicate_succ, Nat.add_assoc, Nat.add_comm 1]

/-! ### The three parts of the run -/

/-- The acceptance and the rows `ST1` to `ST4` (R111 to R114). -/
theorem steps_to_readyPoll {s : State} {cs : List CommandWord} (offered : s.Offers .start cs) :
    steps 5 s = .next (s.atReadyPoll cs) := by
  obtain ⟨hrest, hreset, hsupported, hcommands⟩ := offered
  have atRest : s.At .rest := ⟨hrest, hreset, hsupported⟩
  have atSt1 := (atRest.withCommands cs).goto .st1
  have atSt2 := (atSt1.pinWrite .clock .low).goto .st2
  have atSt3 := (atSt2.pinWrite .program .low).goto .st3
  have atSt4 (ms : Nat) := (atSt3.delay ms).goto .st4
  calc steps 5 s
      = steps 4 _ := steps_move (.start _ cs atRest hcommands rfl)
    _ = steps 3 _ := steps_move (.st1 atSt1)
    _ = steps 2 _ := steps_move (.st2 atSt2)
    _ = steps 1 _ := steps_move (.st3 atSt3)
    _ = steps 0 _ := steps_move (.st4 (atSt4 _))
    _ = .next (s.atReadyPoll cs) := by
      simp [steps, State.atReadyPoll, State.goto, State.emit, State.setLevel, State.withCommands]

/-- A LOW read at `ST5` and the poll delay at `ST5D` are one round of the poll (R115). -/
theorem steps_lowPoll {s : State} {later : List Level} (a : s.At .st5) (low : s.initIn = .low :: later) :
    steps 2 s = .next (s.afterLowPolls 1 later) := by
  have readsLow := s.readLevel_init_cons low
  calc steps 2 s
      = steps 1 _ := steps_move (.st5Low a readsLow)
    _ = steps 0 _ := steps_move (.st5d ((a.afterRead .init).goto .st5d))
    _ = .next (s.afterLowPolls 1 later) := by
      simp [steps, State.afterLowPolls, State.goto, State.emit, State.consume, readsLow, low, a.seq]

/-- `k` LOW reads are `k` rounds of the poll, which has no bound (R115). -/
theorem steps_lowPolls {s : State} {k : Nat} {later : List Level} (a : s.At .st5)
    (lows : s.initIn = List.replicate k Level.low ++ later) : steps (2 * k) s = .next (s.afterLowPolls k later) := by
  induction k generalizing s with
  | zero =>
    have noneRead : s.initIn = later := lows
    rw [← noneRead, State.afterLowPolls_zero]
    rfl
  | succ k ih =>
    have firstLow : s.initIn = .low :: (List.replicate k Level.low ++ later) := lows
    calc steps (2 * (k + 1)) s
        = steps (2 + 2 * k) s := by rw [Nat.mul_succ, Nat.add_comm]
      _ = steps (2 * k) (s.afterLowPolls 1 (List.replicate k Level.low ++ later)) :=
        steps_add (steps_lowPoll a firstLow)
      _ = .next ((s.afterLowPolls 1 (List.replicate k Level.low ++ later)).afterLowPolls k later) :=
        ih (a.afterLowPolls 1 _) rfl
      _ = .next (s.afterLowPolls (k + 1) later) := by rw [State.afterLowPolls_one_afterLowPolls]

/-- A HIGH read at `ST5`, then `ST6` writes `Configuring` and returns `OK` (R116). -/
theorem steps_ready {s : State} {later : List Level} (a : s.At .st5) (high : s.initIn = .high :: later) :
    steps 2 s = .next (s.afterReady later) := by
  have readsHigh := s.readLevel_init_cons high
  calc steps 2 s
      = steps 1 _ := steps_move (.st5High a readsHigh)
    _ = steps 0 _ := steps_move (.st6 ((a.afterRead .init).goto .st6))
    _ = .next (s.afterReady later) := by
      simp [steps, State.afterReady, State.goto, State.emit, State.consume, State.setState, State.deliver,
        readsHigh, high]

/-- START from its acceptance to its return (R117). -/
theorem steps_start {s : State} {k : Nat} {later : List Level} {cs : List CommandWord} (offered : s.Offers .start cs)
    (ready : s.initIn = List.replicate k Level.low ++ .high :: later) :
    steps (7 + 2 * k) s = .next (((s.atReadyPoll cs).afterLowPolls k (.high :: later)).afterReady later) := by
  have atPoll := s.atReadyPoll_at offered
  calc steps (7 + 2 * k) s
      = steps (5 + (2 * k + 2)) s := by rw [← Nat.add_assoc, Nat.add_right_comm]
    _ = steps (2 * k + 2) (s.atReadyPoll cs) := steps_add (steps_to_readyPoll offered)
    _ = steps 2 ((s.atReadyPoll cs).afterLowPolls k (.high :: later)) := steps_add (steps_lowPolls atPoll ready)
    _ = .next (((s.atReadyPoll cs).afterLowPolls k (.high :: later)).afterReady later) :=
      steps_ready (atPoll.afterLowPolls k _) rfl

/-- Settles O19: the three parts of the run, the poll by induction on the number of LOW reads; START ends at `REST`,
where it began, and the events of the parts make up the trace of R120. -/
theorem startRunsToReady : Obligations.StartRunsToReady := by
  intro s k later cs offered ready
  constructor
  · have hrest : s.seq = .rest := offered.left
    rw [steps_start offered ready]
    simp [State.afterReady, State.afterLowPolls, State.atReadyPoll, startTrace, hrest, Nat.add_assoc]
  · -- At the reference parameters `T_RESET_MS` is 10 and `T_POLL_MS` is 1 (R9, R10).
    intro reference
    rw [reference]
    rfl

/-! ### The one write of `state` -/

/-- The rows at which START is in progress (R30). -/
theorem State.inProgress_eq_start_iff {s : State} :
    s.inProgress = some .start ↔ s.seq ∈ [Seq.st1, .st2, .st3, .st4, .st5, .st5d, .st6] := by
  cases hq : s.seq <;> simp [State.inProgress, hq]

/-- A step of a START in progress is of one of three kinds: a row before the last, which leaves `state` alone and leads
to a row before the last; the HIGH read, which leaves `state` alone and leads to the last row; the last row. -/
theorem Move.start_cases {s t : State} (move : Move s t) (h : s.inProgress = some .start) :
    (s.seq ≠ .st6 ∧ t.state = s.state ∧ t.seq ∈ [Seq.st2, .st3, .st4, .st5, .st5d]) ∨
    (s.seq = .st5 ∧ s.readLevel .init = .high ∧ t.state = s.state ∧ t.seq = .st6) ∨
    (s.seq = .st6 ∧ t.state = .configuring ∧ t.seq = .rest) := by
  rw [State.inProgress_eq_start_iff] at h
  cases move with
  | st1 a | st2 a | st3 a | st4 a | st5Low a | st5d a => left; simp [a.seq]
  | st5High a high => exact .inr (.inl ⟨a.seq, high, by simp, rfl⟩)
  | st6 a => exact .inr (.inr ⟨a.seq, rfl, rfl⟩)
  -- The moves of the controller at `REST`.
  | resetInput _ q | rests _ q => simp [q] at h
  | init _ _ a | start _ _ a | send _ _ _ a | finish _ _ a => simp [a.seq] at h
  -- The rows of SEND and of FINISH.
  | sd0More a | sd0End a | sda a | sdb _ a | sdc a | sd9 a => simp [a.seq] at h
  | fn0 a | fn1Spent a | fn1More a | fn2High a | fn2Low a | fna a | fnb a | fnc a | fn3High a | fn3Low a | fn9 a =>
    simp [a.seq] at h

/-- Settles O21, by the three kinds of step of a START in progress. -/
theorem startWritesStateAfterTheReadyPollOnly : Obligations.StartWritesStateAfterTheReadyPollOnly := by
  intro s t hstart hstep
  obtain ⟨hs, kept, ht⟩ | ⟨hs, high, kept, ht⟩ | ⟨hs, written, ht⟩ := (move_of_step hstep).start_cases hstart
  · have notReturned : t.seq ≠ .rest := by intro e; simp [e] at ht
    have notLast : t.seq ≠ .st6 := by intro e; simp [e] at ht
    exact ⟨fun _ => ⟨kept, notReturned⟩, fun e => absurd e hs, fun e => absurd e notLast⟩
  · simp [hs, high, kept, ht]
  · simp [hs, written, ht]

end Sys2Proof.Machine

/-! Proofs of the family 42_send_config: SEND neither reads nor writes `state` (R132), and its whole run delivers its
bytes in order, one rising edge each (R130, R131, R136). The run is cut at `SD0`: the acceptance, a round of the four
rows for each byte, and the return. -/

namespace Sys2Proof.Machine

/-! ### SEND and the lifecycle register -/

/-- No row of SEND's table looks at `state` or writes it. -/
theorem sendRow_setState (s : State) (x : Lifecycle) :
    sendRow (s.setState x) = mapNext (fun t => t.setState x) (sendRow s) := by
  cases hq : s.seq with
  | sd0 | sda | sdc | sd9 => simp only [sendRow, State.setState_seq, hq]; rfl
  | sdb =>
    have sameRead : (s.setState x).bufRead (s.setState x).idx = s.bufRead s.idx := rfl
    simp only [sendRow, State.setState_seq, hq, sameRead]
    cases s.bufRead s.idx <;> rfl
  -- SEND is not in progress.
  | _ => simp only [sendRow, State.setState_seq, hq, mapNext]

/-- Neither the acceptance of SEND nor its refusals look at `state` or write it. -/
theorem exec_send_setState (data : List Byte) (s : State) (x : Lifecycle) :
    exec (.send data) (s.setState x) = mapNext (fun t => t.setState x) (exec (.send data) s) := by
  simp only [exec, execSend, onSupported, State.setState_supported, State.setState_seq, State.setState_buf,
    sendRow_setState]
  split_ifs <;> rfl

/-- Settles O26: SEND commutes with a write of `state`, so it does not read it; and with the write of the value that
is there already, so it does not write it. -/
theorem sendNeitherReadsNorWritesState : Obligations.SendNeitherReadsNorWritesState := by
  intro s data x
  constructor
  · exact exec_send_setState data s x
  · intro t hnext
    have rewritten : exec (.send data) s = .next (t.setState s.state) := by
      calc exec (.send data) s
          = mapNext (fun u => u.setState s.state) (exec (.send data) s) := exec_send_setState data s s.state
        _ = .next (t.setState s.state) := by rw [hnext, mapNext]
    have unchanged : t = t.setState s.state := Host.Outcome.next.inj (hnext.symm.trans rewritten)
    rw [unchanged, State.setState_state]

/-! ### The levels and the trace, one byte at a time -/

theorem sendTrace_cons (p : Params) (d : Bindings) (b : Byte) (data : List Byte) :
    sendTrace p d (b :: data) = byteTrace p d b ++ sendTrace p d data :=
  List.flatMap_cons

theorem clockAfter_cons (clk : Level) (b : Byte) (data : List Byte) : clockAfter clk (b :: data) = .high :=
  if_neg (List.cons_ne_nil b data)

theorem clockAfter_high (data : List Byte) : clockAfter .high data = .high :=
  ite_self _

/-- A byte in the window is written over by the bytes after it (R52, R138). -/
theorem portAfter_cons (p : Params) (d : Bindings) (port : Nat) (b : Byte) (data : List Byte) :
    portAfter p d port (b :: data) = portAfter p d (portAfter p d port [b]) data := by
  cases hlast : data.getLast? <;> simp [portAfter, List.getLast?_cons, hlast, portMerge_portMerge]

/-! ### The states a run of SEND passes through -/

theorem State.At.capture {s : State} {l : Seq} (a : s.At l) (data : List Byte) : (s.capture data).At .sd0 :=
  ⟨rfl, a.noReset, a.supported⟩

theorem State.At.clock {s : State} {l : Seq} (a : s.At l) (v : Level) : (s.clock v).At l :=
  a.pinWrite .clock v

theorem State.At.driveByte {s : State} {l : Seq} (a : s.At l) (b : Byte) : (s.driveByte b).At l :=
  ⟨a.seq, a.noReset, a.supported⟩

/-- SEND is at its test with the bytes `data` of its buffer still to clock. -/
structure State.ToSend (s : State) (data : List Byte) : Prop where
  row : s.At .sd0
  length : s.len = s.buf.length
  rest : s.buf.drop s.idx = data

/-- SEND has clocked the bytes `data` and is back at the row it was at. -/
def State.afterBytes (s : State) (data : List Byte) : State :=
  { s with
    idx := s.idx + data.length
    clkLevel := clockAfter s.clkLevel data
    port := portAfter s.params s.bind s.port data
    io := s.io ++ sendTrace s.params s.bind data }

theorem State.afterBytes_nil (s : State) : s.afterBytes [] = s := by
  simp [State.afterBytes, clockAfter, portAfter, sendTrace]

theorem State.afterBytes_afterBytes_one (s : State) (b : Byte) (data : List Byte) :
    (s.afterBytes [b]).afterBytes data = s.afterBytes (b :: data) := by
  simp [State.afterBytes, clockAfter_cons, clockAfter_high, portAfter_cons s.params s.bind s.port b data, sendTrace,
    Nat.add_assoc, Nat.add_comm 1]

theorem State.toSend_capture {s : State} {l : Seq} (a : s.At l) (data : List Byte) : (s.capture data).ToSend data :=
  ⟨a.capture data, rfl, List.drop_zero⟩

theorem State.ToSend.afterBytes_one {s : State} {b : Byte} {data : List Byte} (h : s.ToSend (b :: data)) :
    (s.afterBytes [b]).ToSend data where
  row := ⟨h.row.seq, h.row.noReset, h.row.supported⟩
  length := h.length
  rest := by
    calc s.buf.drop (s.idx + 1)
        = (s.buf.drop s.idx).tail := List.tail_drop.symm
      _ = data := by rw [h.rest, List.tail_cons]

theorem State.ToSend.idx_lt_len {s : State} {b : Byte} {data : List Byte} (h : s.ToSend (b :: data)) :
    s.idx < s.len := by
  have notEmpty : s.buf.drop s.idx ≠ [] := by simp [h.rest]
  rw [h.length]
  exact not_le.1 (mt List.drop_eq_nil_iff.2 notEmpty)

theorem State.ToSend.bufRead_idx {s : State} {b : Byte} {data : List Byte} (h : s.ToSend (b :: data)) :
    s.bufRead s.idx = some b := by
  calc s.bufRead s.idx
      = s.buf[s.idx]? := if_pos h.idx_lt_len
    _ = (s.buf.drop s.idx).head? := List.head?_drop.symm
    _ = some b := by rw [h.rest, List.head?_cons]

theorem State.ToSend.len_le_idx {s : State} (h : s.ToSend []) : s.len ≤ s.idx := by
  rw [h.length]
  exact List.drop_eq_nil_iff.1 h.rest

/-! ### The three parts of the run -/

/-- The test at `SD0` and the three rows of `SendByte` clock the next byte (R131, R139). -/
theorem steps_sendByte {s : State} {b : Byte} {data : List Byte} (h : s.ToSend (b :: data)) :
    steps 4 s = .next (s.afterBytes [b]) := by
  have atSda := h.row.goto .sda
  have atSdb := (atSda.clock .low).goto .sdb
  have atSdc := (atSdb.driveByte b).goto .sdc
  calc steps 4 s
      = steps 3 _ := steps_move (.sd0More h.row h.idx_lt_len)
    _ = steps 2 _ := steps_move (.sda atSda)
    _ = steps 1 _ := steps_move (.sdb b atSdb h.bufRead_idx)
    _ = steps 0 _ := steps_move (.sdc atSdc)
    _ = .next (s.afterBytes [b]) := by
      simp [steps, State.afterBytes, State.goto, State.emit, State.setLevel, State.setIdx, State.portWrite,
        clockAfter, portAfter, sendTrace, byteTrace, h.row.seq]

/-- The loop of R130 clocks every byte still to send, in order. -/
theorem steps_sendBytes {s : State} {data : List Byte} (h : s.ToSend data) :
    steps (4 * data.length) s = .next (s.afterBytes data) ∧ (s.afterBytes data).ToSend [] := by
  induction data generalizing s with
  | nil => rw [State.afterBytes_nil]; exact ⟨rfl, h⟩
  | cons b data ih =>
    obtain ⟨run, done⟩ := ih h.afterBytes_one
    rw [State.afterBytes_afterBytes_one] at run done
    refine ⟨?_, done⟩
    calc steps (4 * (b :: data).length) s
        = steps (4 + 4 * data.length) s := by rw [List.length_cons, Nat.mul_succ, Nat.add_comm]
      _ = steps (4 * data.length) (s.afterBytes [b]) := steps_add (steps_sendByte h)
      _ = .next (s.afterBytes (b :: data)) := run

/-- With no byte left, the test leads to `SD9`, which returns `OK` (R139). -/
theorem steps_sendEnd {s : State} (h : s.ToSend []) : steps 2 s = .next (s.deliver (.status .ok)) := by
  calc steps 2 s
      = steps 1 _ := steps_move (.sd0End h.row h.len_le_idx)
    _ = steps 0 _ := steps_move (.sd9 (h.row.goto .sd9))
    _ = .next (s.deliver (.status .ok)) := rfl

/-- SEND from its acceptance to its return (R130). -/
theorem steps_send {s : State} {data : List Byte} {cs : List CommandWord} (offered : s.Offers (.send data) cs) :
    steps (4 * data.length + 3) s =
      .next ((((s.withCommands cs).capture data).afterBytes data).deliver (.status .ok)) := by
  obtain ⟨hrest, hreset, hsupported, hcommands⟩ := offered
  have atRest : s.At .rest := ⟨hrest, hreset, hsupported⟩
  have decodes : decode (encode (.send data)) = .ok (.send data) := by
    simp [decode, encode, decodeC1, CommandWord.lengthMatches]
  obtain ⟨run, done⟩ := steps_sendBytes (State.toSend_capture (atRest.withCommands cs) data)
  calc steps (4 * data.length + 3) s
      = steps (4 * data.length + 2) _ := steps_move (.send data _ cs atRest hcommands decodes)
    _ = steps 2 _ := steps_add run
    _ = _ := steps_sendEnd done

/-! ### What the trace of SEND delivers -/

/-- One byte sequence holds one rising edge, at which the window holds the byte (R69, R131). -/
theorem delivered_byteTrace_append {p : Params} {d : Bindings} (clk : Level) (port : Nat) (b : Byte)
    (es : List Event) (fits : d.dataOffset + 8 ≤ p.portW) :
    delivered p d clk port (byteTrace p d b ++ es) =
      b :: delivered p d .high
        (portMerge p.portW port (dataMask p.portW d.dataOffset) (dataValue p.portW d.dataOffset b)) es := by
  simp [byteTrace, delivered, window_portMerge_data port b fits]

/-- Whatever the levels, the trace of SEND delivers its bytes in order (R136). -/
theorem delivered_sendTrace {p : Params} {d : Bindings} (clk : Level) (port : Nat) (data : List Byte)
    (fits : d.dataOffset + 8 ≤ p.portW) : delivered p d clk port (sendTrace p d data) = data := by
  induction data generalizing clk port with
  | nil => rfl
  | cons b data ih => rw [sendTrace_cons, delivered_byteTrace_append clk port b _ fits, ih]

/-- Events that each byte sequence holds once, the trace holds once for each byte. -/
theorem countP_sendTrace {p : Params} {d : Bindings} {q : Event → Bool} (data : List Byte)
    (once : ∀ b, (byteTrace p d b).countP q = 1) : (sendTrace p d data).countP q = data.length := by
  induction data with
  | nil => rfl
  | cons b data ih => rw [sendTrace_cons, List.countP_append, once, ih, List.length_cons, Nat.add_comm]

theorem length_sendTrace (p : Params) (d : Bindings) (data : List Byte) :
    (sendTrace p d data).length = 3 * data.length := by
  induction data with
  | nil => rfl
  | cons b data ih =>
    have three : (byteTrace p d b).length = 3 := rfl
    rw [sendTrace_cons, List.length_append, three, ih, List.length_cons, Nat.mul_succ, Nat.add_comm]

/-- Settles O24: the run of SEND appends its trace, and every byte sequence of it is one clock pair, one port write and
one rising edge at which the window of a supported descriptor holds the byte. -/
theorem sendDeliversItsBytesInOrder : Obligations.SendDeliversItsBytesInOrder := by
  intro s data cs offered
  have ⟨_, _, hsupported, _⟩ := offered
  have fits := s.window_fits_of_supported hsupported
  refine ⟨_, sendTrace s.params s.bind data, steps_send offered, rfl, rfl, ?delivered, ?lows, ?highs, ?portWrites,
    ?length⟩
  case delivered => exact delivered_sendTrace s.clkLevel s.port data fits
  case lows => exact countP_sendTrace data fun _ => rfl
  case highs => exact countP_sendTrace data fun _ => rfl
  case portWrites => exact countP_sendTrace data fun _ => rfl
  case length => exact length_sendTrace s.params s.bind data

end Sys2Proof.Machine

/-! Proofs of the family 60_exceptions: START hangs while `init` reads LOW (R171, R122). The step a hanging START has
come to is a row before the ready poll, the read of a round of the poll, or the poll delay of one. -/

namespace Sys2Proof.Machine

theorem steps_succ_of_move {n : Nat} {s t u : State} (run : steps n s = .next t) (move : Move t u) :
    steps (n + 1) s = .next u := by
  rw [steps_add run, steps_move move, steps]

/-! ### The trace of START is the rows before the poll, then a round for each LOW read -/

/-- The events of START up to its ready poll and of `k` rounds of it (R120). -/
def lowPollsTrace (p : Params) (k : Nat) : List Event :=
  [.pinWrite .clock .low, .pinWrite .program .low, .delay p.tResetMs, .pinWrite .program .high]
    ++ (List.replicate k [.pinRead .init .low, .delay p.tPollMs]).flatten

theorem length_lowPollsTrace (p : Params) (k : Nat) : (lowPollsTrace p k).length = 2 * k + 4 := by
  simp [lowPollsTrace, Nat.mul_comm]

theorem lowPollsTrace_succ (p : Params) (k : Nat) :
    lowPollsTrace p (k + 1) = lowPollsTrace p k ++ [.pinRead .init .low, .delay p.tPollMs] := by
  simp [lowPollsTrace, List.replicate_succ']

theorem lowPollsTrace_prefix_startTrace (p : Params) {j k : Nat} (hj : j ≤ k) :
    lowPollsTrace p j <+: startTrace p k := by
  obtain ⟨m, rfl⟩ := Nat.exists_eq_add_of_le hj
  rw [startTrace, List.replicate_add, List.flatten_append]
  simp [lowPollsTrace]

theorem take_startTrace_at_read (p : Params) {j k : Nat} (hj : j ≤ k) :
    (startTrace p k).take (2 * j + 4) = lowPollsTrace p j := by
  rw [← length_lowPollsTrace p j]
  exact (List.prefix_iff_eq_take.1 (lowPollsTrace_prefix_startTrace p hj)).symm

theorem take_startTrace_at_delay (p : Params) {j k : Nat} (hj : j < k) :
    (startTrace p k).take (2 * j + 5) = lowPollsTrace p j ++ [.pinRead .init .low] := by
  have round : lowPollsTrace p j ++ [.pinRead .init .low] <+: lowPollsTrace p (j + 1) := by
    simp [lowPollsTrace_succ]
  have issued := List.prefix_iff_eq_take.1 (round.trans (lowPollsTrace_prefix_startTrace p hj))
  rw [List.length_append, length_lowPollsTrace] at issued
  exact issued.symm

/-! ### The states a hanging START passes through -/

/-- The START accepted at `s`, with the commands `cs` behind it, is still in progress at `t`: it has issued the events
`issued`, and the host has seen nothing else of it. -/
structure State.StillStarting (s : State) (cs : List CommandWord) (issued : List Event) (t : State) : Prop where
  inProgress : t.inProgress = some .start
  state : t.state = s.state
  results : t.results = s.results
  commands : t.commands = cs
  io : t.io = s.io ++ issued

/-- Before the poll START has come to one of the rows `ST1` to `ST4` (R111 to R114). -/
theorem steps_beforeReadyPoll {s : State} {n : Nat} {cs : List CommandWord} (offered : s.Offers .start cs) (k : Nat)
    (hn : n < 4) :
    ∃ t, steps (n + 1) s = .next t ∧ s.StillStarting cs ((startTrace s.params k).take n) t := by
  obtain ⟨hrest, hreset, hsupported, hcommands⟩ := offered
  have atRest : s.At .rest := ⟨hrest, hreset, hsupported⟩
  have atSt1 := (atRest.withCommands cs).goto .st1
  have atSt2 := (atSt1.pinWrite .clock .low).goto .st2
  have atSt3 := (atSt2.pinWrite .program .low).goto .st3
  have toSt1 : steps 1 s = .next _ := steps_succ_of_move rfl (.start _ cs atRest hcommands rfl)
  have toSt2 := steps_succ_of_move toSt1 (.st1 atSt1)
  have toSt3 := steps_succ_of_move toSt2 (.st2 atSt2)
  have toSt4 := steps_succ_of_move toSt3 (.st3 atSt3)
  match n with
  | 0 => exact ⟨_, toSt1, by constructor <;> simp [State.inProgress]⟩
  | 1 => exact ⟨_, toSt2, by constructor <;> simp [State.inProgress, startTrace]⟩
  | 2 => exact ⟨_, toSt3, by constructor <;> simp [State.inProgress, startTrace]⟩
  | 3 => exact ⟨_, toSt4, by constructor <;> simp [State.inProgress, startTrace]⟩

/-- After `k` LOW reads and their delays START is at `ST5`, whatever the coming read returns (R115). -/
theorem steps_to_read {s : State} {k : Nat} {later : List Level} {cs : List CommandWord} (offered : s.Offers .start cs)
    (lows : s.initIn = List.replicate k Level.low ++ later) :
    steps (2 * k + 5) s = .next ((s.atReadyPoll cs).afterLowPolls k later) := by
  rw [Nat.add_comm, steps_add (steps_to_readyPoll offered)]
  exact steps_lowPolls (s.atReadyPoll_at offered) lows

theorem State.stillStarting_at_read (s : State) (k : Nat) (later : List Level) (cs : List CommandWord) :
    s.StillStarting cs (lowPollsTrace s.params k) ((s.atReadyPoll cs).afterLowPolls k later) := by
  constructor <;> simp [State.atReadyPoll, State.afterLowPolls, State.inProgress, lowPollsTrace]

/-- A LOW read keeps START in progress, at `ST5D` (R115). -/
theorem State.StillStarting.afterLowRead {s t : State} {cs : List CommandWord} {issued : List Event}
    (h : s.StillStarting cs issued t) (low : t.readLevel .init = .low) :
    s.StillStarting cs (issued ++ [.pinRead .init .low]) ((t.afterRead .init).goto .st5d) where
  inProgress := rfl
  state := h.state
  results := h.results
  commands := h.commands
  io := by simp [h.io, low]

/-- After `k` LOW reads with their delays and one more LOW read START is at `ST5D` (R115). -/
theorem steps_to_delay {s : State} {k : Nat} {later : List Level} {cs : List CommandWord} (offered : s.Offers .start cs)
    (lows : s.initIn = List.replicate k Level.low ++ .low :: later) :
    ∃ t, steps (2 * k + 6) s = .next t ∧
      s.StillStarting cs (lowPollsTrace s.params k ++ [.pinRead .init .low]) t := by
  have atRead := (s.atReadyPoll_at offered).afterLowPolls k (.low :: later)
  have low : ((s.atReadyPoll cs).afterLowPolls k (.low :: later)).readLevel .init = .low :=
    State.readLevel_init_cons rfl
  exact ⟨_, steps_succ_of_move (steps_to_read offered lows) (.st5Low atRead low),
    (s.stillStarting_at_read k _ cs).afterLowRead low⟩

/-- Settles O20, by the row the `n` steps end at: one of `ST1` to `ST4`, or after `j` rounds of the poll `ST5`, or
`ST5D` when another LOW read is at hand. -/
theorem startHangsWhileInitReadsLow : Obligations.StartHangsWhileInitReadsLow := by
  intro s k n later cs offered lows hpos hle
  suffices ∃ t, steps n s = .next t ∧ s.StillStarting cs ((startTrace s.params k).take (n - 1)) t by
    obtain ⟨t, run, still⟩ := this
    exact ⟨t, run, still.inProgress, still.state, still.results, still.commands, still.io⟩
  obtain ⟨n, rfl⟩ := Nat.exists_eq_add_one.2 hpos
  rw [Nat.add_sub_cancel]
  obtain before | polling := Nat.lt_or_ge n 4
  · exact steps_beforeReadyPoll offered k before
  obtain ⟨m, rfl⟩ := Nat.exists_eq_add_of_le' polling
  obtain ⟨j, rfl | rfl⟩ := Nat.even_or_odd' m
  · obtain ⟨r, rfl⟩ : ∃ r, k = j + r := ⟨k - j, by omega⟩
    rw [List.replicate_add, List.append_assoc] at lows
    rw [take_startTrace_at_read s.params (by omega)]
    exact ⟨_, steps_to_read offered lows, s.stillStarting_at_read j _ cs⟩
  · obtain ⟨r, rfl⟩ : ∃ r, k = j + (r + 1) := ⟨k - (j + 1), by omega⟩
    rw [List.replicate_add, List.append_assoc] at lows
    rw [take_startTrace_at_delay s.params (by omega)]
    exact steps_to_delay offered lows

end Sys2Proof.Machine

/-! Proofs of the family 30_encoding: decoding and encoding (R81, R82, R89), and the codes (R84 to R86). The decoder
selects a format by the opcode, and each format says which operands it takes and which error it names. -/

namespace Sys2Proof

/-! ### The two formats -/

theorem decodeC0_eq_ok_iff {i j : Instr} {w : CommandWord} :
    decodeC0 i w = .ok j ↔ i = j ∧ w.length = 0 ∧ w.data = [] := by
  by_cases h : w.length = 0 ∧ w.data = [] <;> simp [decodeC0, CommandWord.noOperands, h]

theorem decodeC0_eq_error_iff {i : Instr} {e : DecodeError} {w : CommandWord} :
    decodeC0 i w = .error e ↔ e = .operandsOnC0 ∧ ¬(w.length = 0 ∧ w.data = []) := by
  by_cases h : w.length = 0 ∧ w.data = [] <;> simp [decodeC0, CommandWord.noOperands, h, @eq_comm DecodeError]

theorem decodeC1_eq_ok_iff {j : Instr} {w : CommandWord} :
    decodeC1 w = .ok j ↔ .send w.data = j ∧ w.length = w.data.length := by
  by_cases h : w.length = w.data.length <;> simp [decodeC1, CommandWord.lengthMatches, h]

theorem decodeC1_eq_error_iff {e : DecodeError} {w : CommandWord} :
    decodeC1 w = .error e ↔ e = .lengthMismatch ∧ w.length ≠ w.data.length := by
  by_cases h : w.length = w.data.length <;> simp [decodeC1, CommandWord.lengthMatches, h, @eq_comm DecodeError]

/-! ### The opcode selects the format -/

theorem opcode_cases (op : BitVec 2) : op = 0#2 ∨ op = 1#2 ∨ op = 2#2 ∨ op = 3#2 := by
  revert op
  decide

section
variable (n : Nat) (data : List Byte)

@[simp] theorem decode_op_init : decode ⟨0#2, n, data⟩ = decodeC0 .init ⟨0#2, n, data⟩ := rfl
@[simp] theorem decode_op_start : decode ⟨1#2, n, data⟩ = decodeC0 .start ⟨1#2, n, data⟩ := rfl
@[simp] theorem decode_op_send : decode ⟨2#2, n, data⟩ = decodeC1 ⟨2#2, n, data⟩ := rfl
@[simp] theorem decode_op_finish : decode ⟨3#2, n, data⟩ = decodeC0 .finish ⟨3#2, n, data⟩ := rfl

end

/-! ### Decoding inverts encoding, and fails by name -/

theorem decode_eq_ok_iff (w : CommandWord) (i : Instr) : decode w = .ok i ↔ encode i = w := by
  obtain ⟨op, n, data⟩ := w
  obtain rfl | rfl | rfl | rfl := opcode_cases op
  · cases i <;> simp [decodeC0_eq_ok_iff, encode, @eq_comm Nat 0, @eq_comm _ []]
  · cases i <;> simp [decodeC0_eq_ok_iff, encode, @eq_comm Nat 0, @eq_comm _ []]
  · cases i with
    | send sent =>
      simp only [decode_op_send, decodeC1_eq_ok_iff, encode, Instr.send.injEq, CommandWord.mk.injEq, true_and]
      constructor <;> rintro ⟨rfl, rfl⟩ <;> trivial
    | _ => simp [decodeC1_eq_ok_iff, encode]
  · cases i <;> simp [decodeC0_eq_ok_iff, encode, @eq_comm Nat 0, @eq_comm _ []]

@[simp] theorem decode_encode (i : Instr) : decode (encode i) = .ok i :=
  (decode_eq_ok_iff _ i).2 rfl

/-- Settles O1, by the four opcodes: each format takes exactly the operands its encoding has. -/
theorem wordDecodesExactlyToItsCommand : Obligations.WordDecodesExactlyToItsCommand :=
  decode_eq_ok_iff

/-- Settles O3, by the four opcodes: each format has one error. -/
theorem malformedWordsRejectedByName : Obligations.MalformedWordsRejectedByName := by
  rintro ⟨op, n, data⟩ e
  obtain rfl | rfl | rfl | rfl := opcode_cases op
  · simp [decodeC0_eq_error_iff]
  · simp [decodeC0_eq_error_iff]
  · simp [decodeC1_eq_error_iff]
  · simp [decodeC0_eq_error_iff]

/-- Settles O2: the five words are encodings, and a word decodes to the command whose encoding it is. -/
theorem commandCodesDecodeAsTabled : Obligations.CommandCodesDecodeAsTabled :=
  ⟨decode_encode .init, decode_encode .start, decode_encode (.send []), decode_encode (.send [0x01, 0xFF, 0x00]),
    decode_encode .finish⟩

/-! ### Table words and codes -/

/-- A table word is the encoding of the command its low two bits select. -/
theorem decodeTableWord_of_mod {nbits w r : Nat} {i : Instr} (hr : w % 4 = r)
    (he : encode i = ⟨BitVec.ofNat 2 r, 0, []⟩) : decodeTableWord nbits w = some i := by
  have low : tableWord nbits w = encode i := by
    rw [he, tableWord, ← hr]
    congr 1
    exact BitVec.eq_of_toNat_eq (by simp)
  rw [decodeTableWord, low, decode_encode]

/-- Settles O4, by the four residues of the word modulo 4. -/
theorem everyTableOpcodeIsACommand : Obligations.EveryTableOpcodeIsACommand := by
  intro nbits w
  split_ifs with init start send
  · exact decodeTableWord_of_mod init rfl
  · exact decodeTableWord_of_mod start rfl
  · exact decodeTableWord_of_mod send rfl
  · exact decodeTableWord_of_mod (r := 3) (by omega) rfl

/-- Settles O5: the codes are finite tables. -/
theorem codesAreAsTabled : Obligations.CodesAreAsTabled := by
  refine ⟨?inverted, ?reserved, rfl, rfl, rfl, rfl, rfl, rfl⟩
  case inverted => intro v; cases v <;> rfl
  case reserved => decide

end Sys2Proof

/-! Proofs of the family 30_encoding, section 7: what the step runs (R93, R94, R200), what it refuses (R28, R175, U1),
and the rows of the three step tables as whole next states (R121, R139, R161). -/

namespace Sys2Proof.Machine

/-! ### What the step runs -/

theorem step_of_resetIn {s : State} (h : s.resetIn = true) : step s = resetInput s :=
  if_pos h

theorem State.inProgress_eq_none_iff {s : State} : s.inProgress = none ↔ s.seq = .rest := by
  cases hq : s.seq <;> simp [State.inProgress, hq]

theorem step_of_inProgress {s : State} {i : Instr} (hreset : s.resetIn = false) (hi : s.inProgress = some i) :
    step s = exec i s := by
  simp only [step, hreset, Bool.false_eq_true, if_false, hi]

/-- At `REST` the step does what it finds on the command channel. -/
def Fetched.outcome (s : State) : Fetched → Host.Outcome State Fault Refusal
  | .none => .next s
  | .bad e => .refused (.badCommand e)
  | .command i t => exec i t

theorem step_of_rest {s : State} (hreset : s.resetIn = false) (hrest : s.seq = .rest) :
    step s = (fetch s).outcome s := by
  simp only [step, hreset, Bool.false_eq_true, if_false, State.inProgress_eq_none_iff.2 hrest]
  cases fetch s <;> rfl

theorem fetch_of_nil {s : State} (h : s.commands = []) : fetch s = .none := by
  simp only [fetch, h]

theorem fetch_of_decode_ok {s : State} {w : CommandWord} {cs : List CommandWord} {i : Instr}
    (h : s.commands = w :: cs) (hw : decode w = .ok i) : fetch s = .command i (s.withCommands cs) := by
  simp only [fetch, h, hw]

theorem fetch_of_decode_error {s : State} {w : CommandWord} {cs : List CommandWord} {e : DecodeError}
    (h : s.commands = w :: cs) (hw : decode w = .error e) : fetch s = .bad e := by
  simp only [fetch, h, hw]

/-- Settles O6: the word found on the channel is a command. -/
theorem stepRunsNextCommand : Obligations.StepRunsNextCommand := by
  intro s w cs i hrest hreset hcommands hdecode
  rw [step_of_rest hreset hrest, fetch_of_decode_ok hcommands hdecode]
  rfl

/-- Settles O7: a command is in progress at every label but `REST`. -/
theorem stepContinuesCommandInProgress : Obligations.StepContinuesCommandInProgress :=
  fun _ => ⟨State.inProgress_eq_none_iff, fun _ => step_of_inProgress⟩

/-- Settles O8: what is found on the channel is nothing, or a word that is no command. -/
theorem stepRestsOrRefusesTheWord : Obligations.StepRestsOrRefusesTheWord := by
  intro s hrest hreset
  rw [step_of_rest hreset hrest]
  constructor
  · intro hcommands
    rw [fetch_of_nil hcommands]
    rfl
  · intro w cs e hcommands hdecode
    rw [fetch_of_decode_error hcommands hdecode]
    rfl

/-- Settles O9, by the two cases of the reset input; at `REST` its write of `seq` changes nothing. -/
theorem resetInputActsAtRestOnly : Obligations.ResetInputActsAtRestOnly := by
  intro s hreset
  rw [step_of_resetIn hreset, resetInput]
  constructor
  · intro hrest
    rw [if_pos hrest, State.afterReset, ← hrest]
  · intro hbusy
    rw [if_neg hbusy]

/-- Settles O10: the three values of `State.reset` that R40 states. -/
theorem resetLeavesIdleAtRest : Obligations.ResetLeavesIdleAtRest :=
  ⟨rfl, rfl, rfl⟩

/-! ### What a command is refused for -/

theorem State.inProgress_eq_send_iff {s : State} {data : List Byte} :
    s.inProgress = some (.send data) ↔ s.seq ∈ [Seq.sd0, .sda, .sdb, .sdc, .sd9] ∧ s.buf = data := by
  cases hq : s.seq <;> simp [State.inProgress, hq]

theorem State.inProgress_eq_finish_iff {s : State} :
    s.inProgress = some .finish ↔ s.seq ∈ [Seq.fn0, .fn1, .fn2, .fna, .fnb, .fnc, .fn3, .fn9] := by
  cases hq : s.seq <;> simp [State.inProgress, hq]

/-- SEND gives a row to the labels of its own table only. -/
theorem sendRow_of_not_mem {s : State} (h : s.seq ∉ [Seq.sd0, .sda, .sdb, .sdc, .sd9]) :
    sendRow s = .refused .busy := by
  cases hq : s.seq with
  | sd0 | sda | sdb | sdc | sd9 => simp [hq] at h
  | _ => simp only [sendRow, hq]

/-- A command is refused at a label that is neither `REST` nor in its own table (R93, U1). -/
theorem exec_eq_busy {s : State} {j : Instr} (hs : s.supported = true) (hbusy : s.seq ≠ .rest)
    (hj : s.inProgress ≠ some j) : exec j s = .refused .busy := by
  cases j with
  | init =>
    simp only [exec, execInit, onSupported_of_supported _ hs]
  | start =>
    rw [Ne, State.inProgress_eq_start_iff] at hj
    cases hq : s.seq with
    | rest => exact absurd hq hbusy
    | st1 | st2 | st3 | st4 | st5 | st5d | st6 => simp [hq] at hj
    | _ => simp only [exec, execStart, onSupported_of_supported _ hs, hq]
  | send data =>
    rw [Ne, State.inProgress_eq_send_iff, not_and'] at hj
    simp only [exec, execSend, onSupported_of_supported _ hs, if_neg hbusy]
    split_ifs with hdata
    · exact sendRow_of_not_mem (hj hdata)
    · rfl
  | finish =>
    rw [Ne, State.inProgress_eq_finish_iff] at hj
    cases hq : s.seq with
    | rest => exact absurd hq hbusy
    | fn0 | fn1 | fn2 | fna | fnb | fnc | fn3 | fn9 => simp [hq] at hj
    | _ => simp only [exec, execFinish, onSupported_of_supported _ hs, hq]

/-- Settles O11: the controller is not at `REST`, and the label is not in the table of the second command. -/
theorem secondCommandRefused : Obligations.SecondCommandRefused := by
  intro s i j hs hi hne
  have hbusy : s.seq ≠ .rest := fun hrest => by simp [State.inProgress_eq_none_iff.2 hrest] at hi
  have hj : s.inProgress ≠ some j := fun hj => hne (Option.some.inj (hj.symm.trans hi))
  exact exec_eq_busy hs hbusy hj

theorem onSupported_of_unsupported {s : State} (k : Host.Outcome State Fault Refusal) (hs : s.supported = false) :
    onSupported s k = .refused .unsupportedDescriptor := by
  rw [onSupported, hs, if_neg Bool.false_ne_true]

theorem exec_of_unsupported {s : State} (i : Instr) (hs : s.supported = false) :
    exec i s = .refused .unsupportedDescriptor := by
  cases i <;> exact onSupported_of_unsupported _ hs

/-- A pin handle is no bit of the data window when it is none of its eight port bits (R28). -/
theorem Bindings.inWindow_eq_false_iff (b : Bindings) (h : PinHandle) :
    b.inWindow h = false ↔ ∀ bit, b.dataOffset ≤ bit → bit < b.dataOffset + 8 → h ≠ .portBit b.dataPort bit := by
  cases h with
  | pin n => simp [Bindings.inWindow]
  | portBit port bit =>
    simp only [Bindings.inWindow, ← Bool.not_eq_true, Bool.and_eq_true, beq_iff_eq, decide_eq_true_eq, ne_eq,
      PinHandle.portBit.injEq]
    constructor
    · rintro hout _ lo hi ⟨rfl, rfl⟩
      exact hout ⟨⟨rfl, lo⟩, hi⟩
    · rintro hout ⟨⟨rfl, lo⟩, hi⟩
      exact hout bit lo hi ⟨rfl, rfl⟩

theorem State.supported_iff (s : State) : s.supported = true ↔
    8 ≤ s.params.portW ∧ s.bind.dataOffset + 8 ≤ s.params.portW ∧
      [s.bind.initPin, s.bind.programPin, s.bind.clockPin, s.bind.donePin].Nodup ∧
      ∀ h ∈ [s.bind.initPin, s.bind.programPin, s.bind.clockPin, s.bind.donePin], s.bind.inWindow h = false := by
  simp only [State.supported, Bindings.supported, Params.portWide, Bindings.offsetFits, Bindings.pinsDistinct,
    Bindings.pinsOutsideWindow, Bool.and_eq_true, decide_eq_true_eq, List.all_eq_true, Bool.not_eq_true', and_assoc]

/-- Settles O12: the four checks of a descriptor, and the refusal that every command makes first. -/
theorem unsupportedDescriptorRefused : Obligations.UnsupportedDescriptorRefused := by
  intro s
  constructor
  · simp only [State.supported_iff, Bindings.inWindow_eq_false_iff]
  · exact fun hs i => exec_of_unsupported i hs

/-! ### The rows of the step tables -/

/-- Settles O18: on a supported descriptor START answers the row of its label. -/
theorem startRowsFollowTheTable : Obligations.StartRowsFollowTheTable := by
  intro s hs
  refine ⟨?rest, ?st1, ?st2, ?st3, ?st4, ?st5, ?st5d, ?st6⟩ <;> intro hq <;>
    simp only [exec, execStart, onSupported_of_supported _ hs, hq] <;> rfl

/-- SEND with its data in the buffer answers the row of its label. -/
theorem exec_send_of_buf {s : State} {data : List Byte} (hs : s.supported = true) (hbusy : s.seq ≠ .rest)
    (hbuf : s.buf = data) : exec (.send data) s = sendRow s := by
  simp only [exec, execSend, onSupported_of_supported _ hs, if_neg hbusy, if_pos hbuf]

/-- Settles O22: on a supported descriptor SEND captures its operands at `REST`, and then answers the row of its
label. -/
theorem sendRowsFollowTheTable : Obligations.SendRowsFollowTheTable := by
  intro s data hs
  constructor
  · intro hq
    simp only [exec, execSend, onSupported_of_supported _ hs, if_pos hq]
    rfl
  · intro hbuf
    have row (hbusy : s.seq ≠ .rest) := exec_send_of_buf hs hbusy hbuf
    refine ⟨?sd0, ?sda, ?sdb, ?sdc, ?sd9⟩
    case sdb =>
      intro b hq hidx hb
      have hread : s.bufRead s.idx = some b := by rw [State.bufRead, if_pos hidx, hbuf, hb]
      rw [row (by simp [hq]), sendRow]
      simp only [hq, hread]
      rfl
    all_goals
      intro hq
      rw [row (by simp [hq]), sendRow]
      simp only [hq]
      rfl

/-- The re-read of `done` as one write of the state (R154). -/
theorem State.reread_eq (s : State) : s.reread = (s.afterRead .done).setState
    (if s.readLevel .done = .high then .done else s.state) := by
  unfold State.reread
  split_ifs <;> rfl

/-- Settles O27: on a supported descriptor FINISH answers the row of its label. -/
theorem finishRowsFollowTheTable : Obligations.FinishRowsFollowTheTable := by
  intro s hs
  refine ⟨?rest, ?fn0, ?fn1, ?fn2, ?fna, ?fnb, ?fnc, ?fn3, ?fn9⟩
  case fnc =>
    intro hq hcnt
    simp only [exec, execFinish, onSupported_of_supported _ hs, hq, if_neg hcnt.ne']
    rfl
  all_goals
    intro hq
    simp only [exec, execFinish, onSupported_of_supported _ hs, hq, State.reread_eq]
    rfl

end Sys2Proof.Machine

/-! Proofs of the family 20_memory, continued: mask and value of a data write as plain shifts (R51). A byte shifted into
a window that lies inside the port loses no bit. -/

namespace Sys2Proof.Machine

/-- A byte shifted into a window inside the port loses no bit (R51). -/
theorem shiftLeft_lt_two_pow {w off x : Nat} (hx : x < 2 ^ 8) (hw : off + 8 ≤ w) : x <<< off < 2 ^ w :=
  calc x <<< off
      < 2 ^ (8 + off) := Nat.shiftLeft_lt hx
    _ ≤ 2 ^ w := Nat.pow_le_pow_right (by decide) (by omega)

theorem lt_two_pow_of_lt_byte {w x : Nat} (hx : x < 2 ^ 8) (hw : 8 ≤ w) : x < 2 ^ w :=
  lt_of_lt_of_le hx (Nat.pow_le_pow_right (by decide) hw)

theorem dataMask_eq_shiftLeft {w off : Nat} (hw : off + 8 ≤ w) : dataMask w off = 0xFF <<< off := by
  have hx : 0xFF < 2 ^ 8 := by decide
  rw [dataMask, BitVec.toNat_shiftLeft, BitVec.toNat_ofNat, Nat.mod_eq_of_lt (lt_two_pow_of_lt_byte hx (by omega)),
    Nat.mod_eq_of_lt (shiftLeft_lt_two_pow hx hw)]

theorem dataValue_eq_shiftLeft {w off : Nat} (b : Byte) (hw : off + 8 ≤ w) : dataValue w off b = b.toNat <<< off := by
  rw [dataValue, BitVec.toNat_shiftLeft, BitVec.toNat_setWidth,
    Nat.mod_eq_of_lt (lt_two_pow_of_lt_byte b.isLt (by omega)), Nat.mod_eq_of_lt (shiftLeft_lt_two_pow b.isLt hw)]

/-- Settles O14: with the window inside the port neither shift reaches past the port's width. -/
theorem maskAndValueAreShiftsIntoTheWindow : Obligations.MaskAndValueAreShiftsIntoTheWindow :=
  fun _ _ b hw => ⟨dataMask_eq_shiftLeft hw, dataValue_eq_shiftLeft b hw, fun i => testBit_dataMask i hw⟩

end Sys2Proof.Machine

/-! Proofs of the family 42_send_config, continued: the whole run of SEND as a state (R130, R139), and that the cut of a
bitstream into chunks cannot be seen on the pins (R134): trace, clock level and port of two chunks are those of both. -/

namespace Sys2Proof.Machine

/-- Settles O23: the run of SEND, which begins with its index at 0 and ends at `REST`, where it began. -/
theorem sendRunsToItsEnd : Obligations.SendRunsToItsEnd := by
  intro s data cs
  refine ⟨rfl, fun offered => ?_⟩
  have hrest : s.seq = .rest := offered.left
  rw [steps_send offered]
  simp [State.deliver, State.afterBytes, State.capture, State.withCommands, hrest]

/-! ### Trace and levels of two chunks -/

theorem sendTrace_append (p : Params) (d : Bindings) (d1 d2 : List Byte) :
    sendTrace p d (d1 ++ d2) = sendTrace p d d1 ++ sendTrace p d d2 :=
  List.flatMap_append

theorem clockAfter_append (clk : Level) (d1 d2 : List Byte) :
    clockAfter clk (d1 ++ d2) = clockAfter (clockAfter clk d1) d2 := by
  cases d1 with
  | nil => rfl
  | cons b d1 => rw [List.cons_append, clockAfter_cons, clockAfter_cons, clockAfter_high]

theorem portAfter_append (p : Params) (d : Bindings) (port : Nat) (d1 d2 : List Byte) :
    portAfter p d port (d1 ++ d2) = portAfter p d (portAfter p d port d1) d2 := by
  induction d1 generalizing port with
  | nil => rfl
  | cons b d1 ih => rw [List.cons_append, portAfter_cons, ih, ← portAfter_cons]

/-- Settles O25: both courses are runs of SEND, the second SEND beginning where the first has ended. -/
theorem chunkingCannotBeSeenOnThePins : Obligations.ChunkingCannotBeSeenOnThePins := by
  intro s d1 d2 cs offered
  have ⟨hrest, hreset, hsupported, _⟩ := offered
  have second : ((((s.withCommands (encode (.send d2) :: cs)).capture d1).afterBytes d1).deliver (.status .ok)).Offers
      (.send d2) cs := ⟨rfl, hreset, hsupported, rfl⟩
  have both : State.Offers { s with commands := encode (.send (d1 ++ d2)) :: cs } (.send (d1 ++ d2)) cs :=
    ⟨hrest, hreset, hsupported, rfl⟩
  refine ⟨_, _, (steps_add (steps_send offered)).trans (steps_send second), steps_send both, rfl, rfl, rfl, rfl,
    ?events, ?clock, rfl, ?port, rfl⟩
  case events => simp [State.afterBytes, sendTrace_append]
  case clock => simp [State.afterBytes, clockAfter_append]
  case port => simp [State.afterBytes, portAfter_append]

end Sys2Proof.Machine

/-! Proofs of the family 43_finish_config: the whole runs of FINISH (R153 to R157, R160). A run is cut at the test of
the counter, `FN1`: the acceptance, a round of the five rows for each LOW read, the end of the loop by a HIGH read or by
the counter, and the re-read with the return. -/

namespace Sys2Proof.Machine

/-! ### The states a run of FINISH passes through -/

/-- FINISH, just accepted with the commands `cs` behind it, has its whole budget and is at its test (R153). -/
def State.atBudgetTest (s : State) (cs : List CommandWord) : State :=
  { s with commands := cs, seq := .fn1, cnt := s.params.nDummy }

/-- FINISH has read `done` LOW `n` times, clocked a dummy byte each time, and is back at the row it was at; `later` are
the levels still to come (R152, R153). -/
def State.afterDummyBytes (s : State) (n : Nat) (later : List Level) : State :=
  { s with
    cnt := s.cnt - n
    clkLevel := clockAfter s.clkLevel (List.replicate n s.params.dummyByte)
    port := portAfter s.params s.bind s.port (List.replicate n s.params.dummyByte)
    doneIn := later
    draws := s.draws + n
    io := s.io ++ pollTrace s.params s.bind n }

/-- FINISH has left its loop by a HIGH read of `done`, and is at the re-read (R153). -/
def State.afterHighPoll (s : State) (later : List Level) : State :=
  { s with seq := .fn3, doneIn := later, draws := s.draws + 1, io := s.io ++ [.pinRead .done .high] }

/-- FINISH has re-read `done` at the level `l` and returned the value of `state` (R154, R155). -/
def State.afterReread (s : State) (l : Level) (later : List Level) : State :=
  { s with
    state := if l = .high then .done else s.state
    seq := .rest
    doneIn := later
    draws := s.draws + 1
    io := s.io ++ [.pinRead .done l]
    results := s.results ++ [.state (if l = .high then .done else s.state)] }

theorem State.atBudgetTest_at {s : State} {cs : List CommandWord} (offered : s.Offers .finish cs) :
    (s.atBudgetTest cs).At .fn1 := by
  obtain ⟨-, hreset, hsupported, -⟩ := offered
  exact ⟨rfl, hreset, hsupported⟩

theorem State.At.afterDummyBytes {s : State} {l : Seq} (a : s.At l) (n : Nat) (later : List Level) :
    (s.afterDummyBytes n later).At l :=
  ⟨a.seq, a.noReset, a.supported⟩

theorem State.At.afterHighPoll {s : State} {l : Seq} (a : s.At l) (later : List Level) :
    (s.afterHighPoll later).At .fn3 :=
  ⟨rfl, a.noReset, a.supported⟩

theorem pollTrace_succ (p : Params) (d : Bindings) (n : Nat) :
    pollTrace p d (n + 1) = .pinRead .done .low :: byteTrace p d p.dummyByte ++ pollTrace p d n := by
  rw [pollTrace, List.replicate_succ, List.flatten_cons, ← pollTrace]

theorem State.afterDummyBytes_zero (s : State) : s.afterDummyBytes 0 s.doneIn = s := by
  simp [State.afterDummyBytes, clockAfter, portAfter, pollTrace]

theorem State.afterDummyBytes_one_afterDummyBytes (s : State) (n : Nat) (mid later : List Level) :
    (s.afterDummyBytes 1 mid).afterDummyBytes n later = s.afterDummyBytes (n + 1) later := by
  simp [State.afterDummyBytes, List.replicate_succ, clockAfter_cons, clockAfter_high,
    portAfter_cons s.params s.bind s.port s.params.dummyByte (List.replicate n s.params.dummyByte), pollTrace,
    Nat.sub_sub, Nat.add_assoc, Nat.add_comm 1]

/-! ### The parts of a run -/

/-- The acceptance, and `FN0`, which loads the counter (R153). -/
theorem steps_to_budgetTest {s : State} {cs : List CommandWord} (offered : s.Offers .finish cs) :
    steps 2 s = .next (s.atBudgetTest cs) := by
  obtain ⟨hrest, hreset, hsupported, hcommands⟩ := offered
  have atRest : s.At .rest := ⟨hrest, hreset, hsupported⟩
  calc steps 2 s
      = steps 1 _ := steps_move (.finish _ cs atRest hcommands rfl)
    _ = steps 0 _ := steps_move (.fn0 ((atRest.withCommands cs).goto .fn0))
    _ = .next (s.atBudgetTest cs) := rfl

/-- With budget left, a LOW read is followed by one dummy byte and spends one of the budget (R152, R153). -/
theorem steps_dummyByte {s : State} {later : List Level} (a : s.At .fn1) (budget : 0 < s.cnt)
    (low : s.doneIn = .low :: later) : steps 5 s = .next (s.afterDummyBytes 1 later) := by
  have readsLow := s.readLevel_done_cons low
  have atFn2 := a.goto .fn2
  have atFna := (atFn2.afterRead .done).goto .fna
  have atFnb := (atFna.clock .low).goto .fnb
  have atFnc := (atFnb.driveByte s.params.dummyByte).goto .fnc
  calc steps 5 s
      = steps 4 _ := steps_move (.fn1More a budget)
    _ = steps 3 _ := steps_move (.fn2Low atFn2 readsLow)
    _ = steps 2 _ := steps_move (.fna atFna)
    _ = steps 1 _ := steps_move (.fnb atFnb)
    _ = steps 0 _ := steps_move (.fnc atFnc (by simpa using budget))
    _ = .next (s.afterDummyBytes 1 later) := by
      simp [steps, State.afterDummyBytes, State.goto, State.emit, State.setLevel, State.setCnt, State.portWrite,
        State.consume, State.readLevel, State.script, low, clockAfter, portAfter, pollTrace, byteTrace, a.seq]

/-- While the budget lasts, every LOW read is such a round (R153). -/
theorem steps_dummyBytes {s : State} {n : Nat} {later : List Level} (a : s.At .fn1) (budget : n ≤ s.cnt)
    (lows : s.doneIn = List.replicate n Level.low ++ later) : steps (5 * n) s = .next (s.afterDummyBytes n later) := by
  induction n generalizing s with
  | zero =>
    have noneRead : s.doneIn = later := lows
    rw [← noneRead, State.afterDummyBytes_zero]
    rfl
  | succ n ih =>
    have firstLow : s.doneIn = .low :: (List.replicate n Level.low ++ later) := lows
    calc steps (5 * (n + 1)) s
        = steps (5 + 5 * n) s := by rw [Nat.mul_succ, Nat.add_comm]
      _ = steps (5 * n) (s.afterDummyBytes 1 (List.replicate n Level.low ++ later)) :=
        steps_add (steps_dummyByte a (by omega) firstLow)
      _ = .next ((s.afterDummyBytes 1 (List.replicate n Level.low ++ later)).afterDummyBytes n later) :=
        ih (a.afterDummyBytes 1 _) (Nat.le_sub_one_of_lt budget) rfl
      _ = .next (s.afterDummyBytes (n + 1) later) := by rw [State.afterDummyBytes_one_afterDummyBytes]

/-- With budget left, a HIGH read ends the loop (R153). -/
theorem steps_highPoll {s : State} {later : List Level} (a : s.At .fn1) (budget : 0 < s.cnt)
    (high : s.doneIn = .high :: later) : steps 2 s = .next (s.afterHighPoll later) := by
  have readsHigh := s.readLevel_done_cons high
  calc steps 2 s
      = steps 1 _ := steps_move (.fn1More a budget)
    _ = steps 0 _ := steps_move (.fn2High (a.goto .fn2) readsHigh)
    _ = .next (s.afterHighPoll later) := by
      simp [steps, State.afterHighPoll, State.goto, State.emit, State.consume, State.readLevel, State.script, high]

/-- The re-read at `FN3` alone decides on `Done`, and `FN9` returns the value of `state` (R154, R155). -/
theorem steps_reread {s : State} {l : Level} {later : List Level} (a : s.At .fn3) (reread : s.doneIn = l :: later) :
    steps 2 s = .next (s.afterReread l later) := by
  have reads := s.readLevel_done_cons reread
  cases l with
  | low =>
    calc steps 2 s
        = steps 1 _ := steps_move (.fn3Low a reads)
      _ = steps 0 _ := steps_move (.fn9 ((a.afterRead .done).goto .fn9))
      _ = .next (s.afterReread .low later) := by
        simp [steps, State.afterReread, State.goto, State.emit, State.consume, State.deliver, reads, reread]
  | high =>
    have atFn9 : (((s.afterRead .done).setState .done).goto .fn9).At .fn9 := ⟨rfl, a.noReset, a.supported⟩
    calc steps 2 s
        = steps 1 _ := steps_move (.fn3High a reads)
      _ = steps 0 _ := steps_move (.fn9 atFn9)
      _ = .next (s.afterReread .high later) := by
        simp [steps, State.afterReread, State.goto, State.emit, State.consume, State.setState, State.deliver, reads,
          reread]

/-! ### The two runs -/

/-- FINISH whose loop a HIGH read ends, after `n` dummy bytes (R160, first case). -/
theorem steps_finish_of_high {s : State} {n : Nat} {l : Level} {later : List Level} {cs : List CommandWord}
    (offered : s.Offers .finish cs) (budget : n < s.params.nDummy)
    (levels : s.doneIn = List.replicate n .low ++ .high :: l :: later) :
    steps (5 * n + 6) s = .next ((((s.atBudgetTest cs).afterDummyBytes n (.high :: l :: later)).afterHighPoll
      (l :: later)).afterReread l later) := by
  have atTest := s.atBudgetTest_at offered
  have atNextTest := atTest.afterDummyBytes n (.high :: l :: later)
  calc steps (5 * n + 6) s
      = steps (2 + (5 * n + 4)) s := by rw [Nat.add_comm 2]
    _ = steps (5 * n + 4) (s.atBudgetTest cs) := steps_add (steps_to_budgetTest offered)
    _ = steps 4 _ := steps_add (steps_dummyBytes atTest budget.le levels)
    _ = steps 2 _ := steps_add (b := 2) (steps_highPoll atNextTest (Nat.sub_pos_of_lt budget) rfl)
    _ = _ := steps_reread (atNextTest.afterHighPoll _) rfl

/-- FINISH whose loop the counter ends, after the whole budget (R160, second case). -/
theorem steps_finish_of_spent {s : State} {l : Level} {later : List Level} {cs : List CommandWord}
    (offered : s.Offers .finish cs) (levels : s.doneIn = List.replicate s.params.nDummy .low ++ l :: later) :
    steps (5 * s.params.nDummy + 5) s = .next ((((s.atBudgetTest cs).afterDummyBytes s.params.nDummy
      (l :: later)).goto .fn3).afterReread l later) := by
  have atTest := s.atBudgetTest_at offered
  have atNextTest := atTest.afterDummyBytes s.params.nDummy (l :: later)
  calc steps (5 * s.params.nDummy + 5) s
      = steps (2 + (5 * s.params.nDummy + 3)) s := by rw [Nat.add_comm 2]
    _ = steps (5 * s.params.nDummy + 3) (s.atBudgetTest cs) := steps_add (steps_to_budgetTest offered)
    _ = steps 3 _ := steps_add (steps_dummyBytes atTest le_rfl levels)
    _ = steps 2 _ := steps_move (.fn1Spent atNextTest (Nat.sub_self _))
    _ = _ := steps_reread (atNextTest.goto .fn3) rfl

/-- Settles O28: the run whose loop a HIGH read ends, by induction on the number of LOW reads. -/
theorem finishRunsWhenDoneReadsHigh : Obligations.FinishRunsWhenDoneReadsHigh := by
  intro s n l later cs offered budget levels
  have hrest : s.seq = .rest := offered.left
  rw [steps_finish_of_high offered budget levels]
  simp [State.afterReread, State.afterHighPoll, State.afterDummyBytes, State.atBudgetTest, hrest, Nat.add_assoc]

/-- Settles O29: the run whose loop the counter ends, by induction on the number of LOW reads. -/
theorem finishRunsWhenTheBudgetIsSpent : Obligations.FinishRunsWhenTheBudgetIsSpent := by
  intro s l later cs offered levels
  have hrest : s.seq = .rest := offered.left
  rw [steps_finish_of_spent offered levels]
  simp [State.afterReread, State.goto, State.afterDummyBytes, State.atBudgetTest, hrest, Nat.add_assoc]

/-! ### What the trace of FINISH delivers and counts -/

theorem delivered_pinRead_cons (p : Params) (d : Bindings) (clk : Level) (port : Nat) (pin : InPin) (l : Level)
    (es : List Event) : delivered p d clk port (.pinRead pin l :: es) = delivered p d clk port es := by
  simp only [delivered]

theorem delivered_doneReads (p : Params) (d : Bindings) (clk : Level) (port : Nat) (levels : List Level) :
    delivered p d clk port (levels.map (Event.pinRead .done)) = [] := by
  induction levels with
  | nil => rfl
  | cons l levels ih => rw [List.map_cons, delivered_pinRead_cons, ih]

/-- Whatever the levels, `n` rounds of the poll and then reads of `done` alone deliver `n` dummy bytes (R156, R157). -/
theorem delivered_finishTrace {p : Params} {d : Bindings} (clk : Level) (port n : Nat) (levels : List Level)
    (fits : d.dataOffset + 8 ≤ p.portW) :
    delivered p d clk port (pollTrace p d n ++ levels.map (Event.pinRead .done)) = List.replicate n p.dummyByte := by
  induction n generalizing clk port with
  | zero => exact delivered_doneReads p d clk port levels
  | succ n ih =>
    rw [pollTrace_succ, List.cons_append, List.cons_append, List.append_assoc, delivered_pinRead_cons,
      delivered_byteTrace_append clk port _ _ fits, ih, List.replicate_succ]

theorem countP_pollTrace (p : Params) (d : Bindings) (n : Nat) (q : Event → Bool) :
    (pollTrace p d n).countP q = n * (Event.pinRead .done .low :: byteTrace p d p.dummyByte).countP q := by
  simp [pollTrace, List.countP_flatten]

theorem length_pollTrace (p : Params) (d : Bindings) (n : Nat) : (pollTrace p d n).length = 4 * n := by
  simp [pollTrace, byteTrace, Nat.mul_comm]

theorem countP_finishTrace (s : State) (n : Nat) (levels : List Level) (q : Event → Bool) :
    (pollTrace s.params s.bind n ++ levels.map (Event.pinRead .done)).countP q =
      n * (Event.pinRead .done .low :: byteTrace s.params s.bind s.params.dummyByte).countP q +
        levels.countP fun l => q (.pinRead .done l) := by
  rw [List.countP_append, countP_pollTrace, List.countP_map]
  rfl

/-- Settles O30: both ends of the loop; the counter ends it after the 1024th dummy byte. -/
theorem finishSucceedsAfterNDummyBytes : Obligations.FinishSucceedsAfterNDummyBytes := by
  intro s n later cs offered reference
  have ⟨_, _, hsupported, _⟩ := offered
  have fits := s.window_fits_of_supported hsupported
  constructor
  · intro budget levels
    refine ⟨_, pollTrace s.params s.bind n ++ [.high, .high].map (Event.pinRead .done),
      finishRunsWhenDoneReadsHigh s n .high later cs offered (by omega) levels, offered.left, rfl, rfl, rfl,
      delivered_finishTrace _ _ n _ fits, ?portWrites, ?length⟩
    case portWrites => exact (countP_finishTrace s n _ _).trans (Nat.mul_one n)
    case length => rw [List.length_append, length_pollTrace]; rfl
  · intro levels
    rw [← reference] at levels ⊢
    refine ⟨_, pollTrace s.params s.bind s.params.nDummy ++ [.high].map (Event.pinRead .done),
      finishRunsWhenTheBudgetIsSpent s .high later cs offered levels, offered.left, rfl, rfl, rfl,
      delivered_finishTrace _ _ s.params.nDummy _ fits, ?portWrites, ?length⟩
    case portWrites => exact (countP_finishTrace s s.params.nDummy _ _).trans (Nat.mul_one _)
    case length => rw [List.length_append, length_pollTrace]; rfl

/-- Settles O31: the counter ends the loop, and the LOW re-read leaves `state` as it was. -/
theorem finishTimesOutAfter1024DummyBytes : Obligations.FinishTimesOutAfter1024DummyBytes := by
  intro s later cs offered reference levels
  have ⟨_, _, hsupported, _⟩ := offered
  have fits := s.window_fits_of_supported hsupported
  have budgetThenReread : s.doneIn = List.replicate s.params.nDummy .low ++ .low :: later := by
    rw [levels, reference, List.replicate_succ', List.append_assoc]
    rfl
  have run := finishRunsWhenTheBudgetIsSpent s .low later cs offered budgetThenReread
  rw [reference] at run
  refine ⟨_, pollTrace s.params s.bind 1024 ++ [.low].map (Event.pinRead .done), run, offered.left, rfl, rfl, rfl,
    delivered_finishTrace _ _ 1024 _ fits, ?length, ?reads, ?portWrites, ?clockWrites⟩
  case length => rw [List.length_append, length_pollTrace]; rfl
  case reads => exact countP_finishTrace s 1024 _ _
  case portWrites => exact countP_finishTrace s 1024 _ _
  case clockWrites => exact countP_finishTrace s 1024 _ _

end Sys2Proof.Machine

/-! Proofs about the whole machine, one step: what a step writes and what it leaves unchanged (R21, R25, R26, R36, R66,
R83). Each is read off the moves of the controller. -/

namespace Sys2Proof.Machine

theorem Move.bind_eq {s t : State} (move : Move s t) : t.bind = s.bind := by
  cases move <;> simp

theorem Move.params_eq {s t : State} (move : Move s t) : t.params = s.params := by
  cases move <;> simp

/-- Settles O35: no move writes the binding registers or the parameters. -/
theorem noStepWritesTheBindings : Obligations.NoStepWritesTheBindings :=
  fun _ _ hstep => ⟨(move_of_step hstep).bind_eq, (move_of_step hstep).params_eq⟩

/-- Settles O36: the four moves that write `state`; INIT is the command whose encoding the channel held. -/
theorem lifecycleHasTheseWritersOnly : Obligations.LifecycleHasTheseWritersOnly := by
  intro s t hstep written
  cases move_of_step hstep with
  | resetInput h q => exact .inl ⟨q, rfl, rfl, .inl h⟩
  | init w cs a c d =>
    have hw : encode .init = w := (decode_eq_ok_iff w .init).1 d
    exact .inl ⟨a.seq, rfl, rfl, .inr ⟨cs, hw ▸ c⟩⟩
  | st6 a => exact .inr (.inl ⟨a.seq, rfl⟩)
  | fn3High a high => exact .inr (.inr ⟨a.seq, high, rfl⟩)
  | _ => simp at written

/-- Settles O37: the moves that write the program pin, the clock and the port; every other leaves the three alone. -/
theorem latchesHaveTheseWritersOnly : Obligations.LatchesHaveTheseWritersOnly := by
  intro s t hstep
  cases move_of_step hstep with
  | st2 a | st4 a => simp [a.seq]
  | st1 a | sda a | fna a => simp [a.seq]
  | sdc a | fnc a => simp [a.seq]
  | sdb _ a | fnb a => simp [a.seq]
  | _ => simp

/-- Settles O39: the reset input empties the history; every other move appends the one event of its row, or none. -/
theorem aStepIssuesAtMostOneEvent : Obligations.AStepIssuesAtMostOneEvent := by
  intro s t hstep
  cases move_of_step hstep with
  | resetInput h => exact .inr (.inr ⟨h, rfl⟩)
  | st1 | st2 | st3 | st4 | st5High | st5Low | st5d | sda | sdb | sdc | fn2High | fn2Low | fna | fnb | fnc | fn3High
  | fn3Low => simp
  | _ => exact .inl rfl

/-- Settles O40: a row that is not the last of its table leaves the channel and the results alone and stays in the
table; the last rows are `ST6`, `SD9` and `FN9`. -/
theorem hostIsBlockedUntilTheResult : Obligations.HostIsBlockedUntilTheResult := by
  intro s t busy hstep
  cases move_of_step hstep with
  | resetInput _ q | rests _ q => exact absurd q busy
  | init _ _ a | start _ _ a | send _ _ _ a | finish _ _ a => exact absurd a.seq busy
  | st6 a | sd9 a | fn9 a => simp [a.seq]
  | _ => simp

end Sys2Proof.Machine

/-! Proofs about the whole machine, the invariant (R204, R205, R207, R31 to R36, R58, R151): reset meets it, every step
keeps it, and under it every row is enabled. The clauses that speak of rows are read as one assertion for the row the
sequencer is at, so that each move has only to lead from the assertion of its row to that of the next. -/

namespace Sys2Proof.Machine

/-! ### The invariant, row by row -/

/-- What the invariant asserts at the row `seq` is at. -/
def State.RowInv (s : State) : Prop :=
  match s.seq with
  | .rest | .st1 | .fn0 | .fn9 => True
  | .st2 => s.clkLevel = .low
  | .st3 | .st4 => s.clkLevel = .low ∧ s.progLevel = .low
  | .st5 | .st5d | .st6 => s.clkLevel = .low ∧ s.progLevel = .high
  | .sd0 | .sd9 => s.len = s.buf.length ∧ s.idx ≤ s.len
  | .sda => s.len = s.buf.length ∧ s.idx < s.len
  | .sdb => s.len = s.buf.length ∧ s.idx < s.len ∧ s.clkLevel = .low
  | .sdc => s.len = s.buf.length ∧ s.idx < s.len ∧ s.clkLevel = .low ∧
      s.buf[s.idx]? = some (window s.bind.dataOffset s.port)
  | .fn1 | .fn3 => s.cnt ≤ s.params.nDummy
  | .fn2 | .fna => s.cnt ≤ s.params.nDummy ∧ 0 < s.cnt
  | .fnb => s.cnt ≤ s.params.nDummy ∧ 0 < s.cnt ∧ s.clkLevel = .low
  | .fnc => s.cnt ≤ s.params.nDummy ∧ 0 < s.cnt ∧ s.clkLevel = .low ∧
      window s.bind.dataOffset s.port = s.params.dummyByte

theorem State.Inv.rowInv {s : State} (inv : s.Inv) : s.RowInv := by
  obtain ⟨-, -, sendLength, sendIndex, finishCount, finishBudget, startClockLow, startProgramLow, startProgramHigh,
    byteClockLow, sendWindow, finishWindow, -, -⟩ := inv
  cases hq : s.seq <;> simp_all [State.RowInv]
  case sd0 | sd9 => omega

/-- The clauses of the invariant are the assertion of the row and four clauses that speak of no row. -/
theorem State.RowInv.inv {s : State} (row : s.RowInv) (portBits : s.port < 2 ^ s.params.portW)
    (busySupported : s.seq ≠ .rest → s.supported = true)
    (clockLatch : (lastLevel .clock s.io).getD s.clkLevel = s.clkLevel)
    (programLatch : (lastLevel .program s.io).getD s.progLevel = s.progLevel) : s.Inv := by
  constructor
  case portBits => exact portBits
  case busySupported => exact busySupported
  case clockLatch => exact clockLatch
  case programLatch => exact programLatch
  all_goals cases hq : s.seq <;> simp_all [State.RowInv]
  all_goals omega

/-! ### Every move keeps the invariant -/

theorem Move.keeps_portBits {s t : State} (move : Move s t) (h : s.port < 2 ^ s.params.portW) :
    t.port < 2 ^ t.params.portW := by
  rw [move.params_eq]
  obtain ⟨-, b, hport, -⟩ | ⟨hport, -⟩ := move.drives_byte_or_leaves_port
  · rw [hport]
    exact driveByte_keeps_width s b
  · rw [hport]
    exact h

/-- A controller that is not at `REST` after a move made it on a supported descriptor. -/
theorem Move.supported_of_busy {s t : State} (move : Move s t) (busy : t.seq ≠ .rest) : t.supported = true := by
  have kept : t.supported = s.supported := by rw [State.supported, move.bind_eq, move.params_eq, State.supported]
  rw [kept]
  cases move with
  | resetInput => exact absurd rfl busy
  | rests _ q => exact absurd q busy
  | init _ _ a | start _ _ a | send _ _ _ a | finish _ _ a => exact a.supported
  | st1 a | st2 a | st3 a | st4 a | st5High a | st5Low a | st5d a | st6 a => exact a.supported
  | sd0More a | sd0End a | sda a | sdb _ a | sdc a | sd9 a => exact a.supported
  | fn0 a | fn1Spent a | fn1More a | fn2High a | fn2Low a | fna a | fnb a | fnc a | fn3High a | fn3Low a | fn9 a =>
    exact a.supported

theorem Move.keeps_clockLatch {s t : State} (move : Move s t)
    (h : (lastLevel .clock s.io).getD s.clkLevel = s.clkLevel) :
    (lastLevel .clock t.io).getD t.clkLevel = t.clkLevel := by
  cases move with
  | resetInput => rfl
  | _ => simp [lastLevel_append, h]

theorem Move.keeps_programLatch {s t : State} (move : Move s t)
    (h : (lastLevel .program s.io).getD s.progLevel = s.progLevel) :
    (lastLevel .program t.io).getD t.progLevel = t.progLevel := by
  cases move with
  | resetInput => rfl
  | _ => simp [lastLevel_append, h]

theorem State.At.rowInv {s : State} {l : Seq} (a : s.At l) (h : s.RowInv) : State.RowInv { s with seq := l } := by
  rw [← a.seq]
  exact h

/-- The byte just driven is on the window of a supported descriptor. -/
theorem State.window_driveByte {s : State} (b : Byte) (hs : s.supported = true) :
    window s.bind.dataOffset (s.driveByte b).port = b :=
  window_portMerge_data s.port b (s.window_fits_of_supported hs)

theorem State.buf_getElem_of_bufRead {s : State} {i : Nat} {b : Byte} (h : s.bufRead i = some b) :
    s.buf[i]? = some b := by
  unfold State.bufRead at h
  split_ifs at h
  exact h

/-- Each move leads from the assertion of its row to that of the next. -/
theorem Move.keeps_rowInv {s t : State} (move : Move s t) (h : s.RowInv) : t.RowInv := by
  cases move with
  -- At `REST`, and at the first and the last row of a table, nothing is asserted.
  | resetInput | init | start | finish | st6 | sd9 | fn3High | fn3Low | fn9 => trivial
  | rests => exact h
  -- START
  | st1 a => rfl
  | st2 a =>
    have clockLow := a.rowInv h
    exact ⟨clockLow, rfl⟩
  | st3 a => exact a.rowInv h
  | st4 a =>
    obtain ⟨clockLow, -⟩ := a.rowInv h
    exact ⟨clockLow, rfl⟩
  | st5High a | st5Low a | st5d a => exact a.rowInv h
  -- SEND
  | send data => exact ⟨rfl, Nat.zero_le _⟩
  | sd0More a more =>
    obtain ⟨hlen, -⟩ := a.rowInv h
    exact ⟨hlen, more⟩
  | sd0End a => exact a.rowInv h
  | sda a =>
    obtain ⟨hlen, hidx⟩ := a.rowInv h
    exact ⟨hlen, hidx, rfl⟩
  | sdb b a read =>
    obtain ⟨hlen, hidx, clockLow⟩ := a.rowInv h
    refine ⟨hlen, hidx, clockLow, ?_⟩
    rw [State.goto_bind]
    exact (State.buf_getElem_of_bufRead read).trans (congrArg some (s.window_driveByte b a.supported).symm)
  | sdc a =>
    obtain ⟨hlen, hidx, -, -⟩ := a.rowInv h
    exact ⟨hlen, hidx⟩
  -- FINISH
  | fn0 a => exact le_rfl
  | fn1Spent a => exact a.rowInv h
  | fn1More a budget => exact ⟨a.rowInv h, budget⟩
  | fn2High a =>
    obtain ⟨hcnt, -⟩ := a.rowInv h
    exact hcnt
  | fn2Low a => exact a.rowInv h
  | fna a =>
    obtain ⟨hcnt, budget⟩ := a.rowInv h
    exact ⟨hcnt, budget, rfl⟩
  | fnb a =>
    obtain ⟨hcnt, budget, clockLow⟩ := a.rowInv h
    exact ⟨hcnt, budget, clockLow, s.window_driveByte s.params.dummyByte a.supported⟩
  | fnc a =>
    obtain ⟨hcnt, -, -, -⟩ := a.rowInv h
    exact (Nat.sub_le _ _).trans hcnt

/-- Settles O32: the assertion of the row, and each clause that speaks of no row, is kept by every move. -/
theorem everyStepKeepsTheInvariant : Obligations.EveryStepKeepsTheInvariant := by
  intro s t inv hstep
  have move := move_of_step hstep
  exact (move.keeps_rowInv inv.rowInv).inv (move.keeps_portBits inv.portBits) move.supported_of_busy
    (move.keeps_clockLatch inv.clockLatch) (move.keeps_programLatch inv.programLatch)

/-- Settles O33: nothing is asserted at `REST`, and no event has written a pin yet. -/
theorem resetMeetsTheInvariant : Obligations.ResetMeetsTheInvariant := by
  have rowInv : State.reset.RowInv := trivial
  exact rowInv.inv (by decide) (by decide) rfl rfl

/-! ### Under the invariant every row is enabled -/

/-- The acceptance of a command is a next state or a refusal (R170). -/
theorem exec_of_rest_ne_fault {s : State} (i : Instr) (r : Fault) (hrest : s.seq = .rest) : exec i s ≠ .fault r := by
  by_cases hs : s.supported = true
  · cases i <;> simp only [exec, execInit, execStart, execSend, execFinish, onSupported_of_supported _ hs, hrest,
      if_true, ne_eq, reduceCtorEq, not_false_eq_true]
  · rw [exec_of_unsupported i (Bool.not_eq_true _ ▸ hs)]
    exact nofun

/-- At every row a move is enabled: the invariant gives `SDB` its byte and `FNC` its budget (R58, R32). -/
theorem State.Inv.exists_move {s : State} (inv : s.Inv) (busy : s.seq ≠ .rest) (hreset : s.resetIn = false) :
    ∃ t, Move s t := by
  have row := inv.rowInv
  have atRow {l : Seq} (hq : s.seq = l) : s.At l := ⟨hq, hreset, inv.busySupported busy⟩
  cases hq : s.seq with
  | rest => exact absurd hq busy
  | st1 => exact ⟨_, .st1 (atRow hq)⟩
  | st2 => exact ⟨_, .st2 (atRow hq)⟩
  | st3 => exact ⟨_, .st3 (atRow hq)⟩
  | st4 => exact ⟨_, .st4 (atRow hq)⟩
  | st5 =>
    cases read : s.readLevel .init with
    | low => exact ⟨_, .st5Low (atRow hq) read⟩
    | high => exact ⟨_, .st5High (atRow hq) read⟩
  | st5d => exact ⟨_, .st5d (atRow hq)⟩
  | st6 => exact ⟨_, .st6 (atRow hq)⟩
  | sd0 =>
    obtain more | none := Nat.lt_or_ge s.idx s.len
    · exact ⟨_, .sd0More (atRow hq) more⟩
    · exact ⟨_, .sd0End (atRow hq) none⟩
  | sda => exact ⟨_, .sda (atRow hq)⟩
  | sdb =>
    obtain ⟨hlen, hidx, -⟩ := (atRow hq).rowInv row
    have read : s.bufRead s.idx = some (s.buf[s.idx]'(hlen ▸ hidx)) :=
      (if_pos hidx).trans (List.getElem?_eq_getElem _)
    exact ⟨_, .sdb _ (atRow hq) read⟩
  | sdc => exact ⟨_, .sdc (atRow hq)⟩
  | sd9 => exact ⟨_, .sd9 (atRow hq)⟩
  | fn0 => exact ⟨_, .fn0 (atRow hq)⟩
  | fn1 =>
    obtain spent | budget := Nat.eq_zero_or_pos s.cnt
    · exact ⟨_, .fn1Spent (atRow hq) spent⟩
    · exact ⟨_, .fn1More (atRow hq) budget⟩
  | fn2 =>
    cases read : s.readLevel .done with
    | low => exact ⟨_, .fn2Low (atRow hq) read⟩
    | high => exact ⟨_, .fn2High (atRow hq) read⟩
  | fna => exact ⟨_, .fna (atRow hq)⟩
  | fnb => exact ⟨_, .fnb (atRow hq)⟩
  | fnc =>
    obtain ⟨-, budget, -, -⟩ := (atRow hq).rowInv row
    exact ⟨_, .fnc (atRow hq) budget⟩
  | fn3 =>
    cases read : s.readLevel .done with
    | low => exact ⟨_, .fn3Low (atRow hq) read⟩
    | high => exact ⟨_, .fn3High (atRow hq) read⟩
  | fn9 => exact ⟨_, .fn9 (atRow hq)⟩

/-- What is found on the command channel never faults (R170). -/
theorem step_of_rest_ne_fault {s : State} (r : Fault) (hreset : s.resetIn = false) (hrest : s.seq = .rest) :
    step s ≠ .fault r := by
  rw [step_of_rest hreset hrest]
  cases hcommands : s.commands with
  | nil => rw [fetch_of_nil hcommands]; exact nofun
  | cons w cs =>
    cases hdecode : decode w with
    | error e => rw [fetch_of_decode_error hcommands hdecode]; exact nofun
    | ok i =>
      rw [fetch_of_decode_ok hcommands hdecode]
      exact exec_of_rest_ne_fault (s := s.withCommands cs) i r hrest

theorem resetInput_ne_fault (s : State) (r : Fault) : resetInput s ≠ .fault r := by
  unfold resetInput
  split_ifs <;> exact nofun

/-- Settles O34: the reset input and the acceptances do not fault, and at every row a move is enabled. -/
theorem noFaultAndEveryRowEnabled : Obligations.NoFaultAndEveryRowEnabled := by
  intro s inv
  have enabled (busy : s.seq ≠ .rest) (hreset : s.resetIn = false) : ∃ t, step s = .next t :=
    (inv.exists_move busy hreset).imp fun _ => Move.step
  refine ⟨fun r => ?noFault, enabled⟩
  cases hreset : s.resetIn with
  | true => rw [step_of_resetIn hreset]; exact resetInput_ne_fault s r
  | false =>
    by_cases hrest : s.seq = .rest
    · exact step_of_rest_ne_fault r hreset hrest
    · obtain ⟨t, ht⟩ := enabled hrest hreset
      rw [ht]
      exact nofun

/-- Settles O38: `SDC` and `FNC` are the moves that drive the clock HIGH, and the assertion of each says what the window
then holds. -/
theorem everyRisingEdgeDeliversItsByte : Obligations.EveryRisingEdgeDeliversItsByte := by
  intro s t inv hstep edge
  have row := inv.rowInv
  cases move_of_step hstep with
  | sdc a =>
    obtain ⟨-, -, clockLow, byteOnWindow⟩ := a.rowInv row
    exact ⟨clockLow, rfl, rfl, .inl ⟨a.seq, byteOnWindow⟩⟩
  | fnc a =>
    obtain ⟨-, -, clockLow, dummyOnWindow⟩ := a.rowInv row
    exact ⟨clockLow, rfl, rfl, .inr ⟨a.seq, dummyOnWindow⟩⟩
  | _ => simp at edge

end Sys2Proof.Machine

/-! Proofs about the configuration sequence INIT, START, SENDs, FINISH (R41, R203): the runs of the four commands, each
beginning at `REST` where the one before it has ended. -/

namespace Sys2Proof.Machine

/-! ### What the whole trace delivers -/

/-- Whatever the levels, a SEND delivers its bytes before those of the events that follow it (R69, R136). -/
theorem delivered_sendTrace_append {p : Params} {d : Bindings} {es : List Event} {later : List Byte} (clk : Level)
    (port : Nat) (data : List Byte) (fits : d.dataOffset + 8 ≤ p.portW)
    (h : ∀ clk port, delivered p d clk port es = later) :
    delivered p d clk port (sendTrace p d data ++ es) = data ++ later := by
  induction data generalizing clk port with
  | nil => exact h clk port
  | cons b data ih =>
    rw [sendTrace_cons, List.append_assoc, delivered_byteTrace_append clk port b _ fits, ih, List.cons_append]

/-- START delivers nothing: it never drives the clock HIGH (R205). -/
theorem delivered_startTrace_append {p : Params} {d : Bindings} {es : List Event} {later : List Byte} (clk : Level)
    (port k : Nat) (h : ∀ clk port, delivered p d clk port es = later) :
    delivered p d clk port (startTrace p k ++ es) = later := by
  have polls : delivered p d .low port
      ((List.replicate k [Event.pinRead .init .low, .delay p.tPollMs]).flatten ++ .pinRead .init .high :: es) =
        later := by
    induction k with
    | zero => exact (delivered_pinRead_cons ..).trans (h .low port)
    | succ k ih => simpa [List.replicate_succ, delivered] using ih
  simpa [startTrace, delivered] using polls

/-! ### A run of SENDs -/

/-- A SEND of `data`, accepted with the commands `cs` behind it, has returned. -/
def State.afterSend (s : State) (data : List Byte) (cs : List CommandWord) : State :=
  (((s.withCommands cs).capture data).afterBytes data).deliver (.status .ok)

/-- The SENDs of `chunks`, offered at `s` with the commands `cs` behind them, have all returned at `t`. -/
structure State.AfterSends (s : State) (chunks : List (List Byte)) (cs : List CommandWord) (t : State) : Prop where
  row : t.At .rest
  commands : t.commands = cs
  bind : t.bind = s.bind
  params : t.params = s.params
  state : t.state = s.state
  doneIn : t.doneIn = s.doneIn
  io : t.io = s.io ++ sendTrace s.params s.bind chunks.flatten

theorem steps_sends {s : State} {chunks : List (List Byte)} {cs : List CommandWord} (a : s.At .rest)
    (offered : s.commands = (chunks.map fun d => encode (.send d)) ++ cs) :
    ∃ t, steps (chunks.map fun d => 4 * d.length + 3).sum s = .next t ∧ s.AfterSends chunks cs t := by
  induction chunks generalizing s with
  | nil => exact ⟨s, rfl, a, offered, rfl, rfl, rfl, rfl, (List.append_nil _).symm⟩
  | cons d chunks ih =>
    have first := steps_send ⟨a.seq, a.noReset, a.supported, offered⟩
    have atRest : (s.afterSend d ((chunks.map fun d => encode (.send d)) ++ cs)).At .rest :=
      ⟨rfl, a.noReset, a.supported⟩
    obtain ⟨t, run, after⟩ := ih atRest rfl
    refine ⟨t, ?_, after.row, after.commands, after.bind, after.params, after.state, after.doneIn, ?_⟩
    · rw [List.map_cons, List.sum_cons]
      exact (steps_add first).trans run
    · rw [after.io, List.flatten_cons, sendTrace_append, ← List.append_assoc]
      rfl

/-! ### The sequence -/

/-- INIT, accepted with the commands `cs` behind it, has returned. -/
def State.afterInit (s : State) (cs : List CommandWord) : State :=
  ((s.withCommands cs).setState .idle).deliver (.status .ok)

theorem steps_init {s : State} {cs : List CommandWord} (offered : s.Offers .init cs) :
    steps 1 s = .next (s.afterInit cs) := by
  obtain ⟨hrest, hreset, hsupported, hcommands⟩ := offered
  exact steps_move (.init _ cs ⟨hrest, hreset, hsupported⟩ hcommands rfl)

/-- INIT and START leave the controller configuring, at `REST`, with the trace of START alone (R100, R116). -/
theorem steps_init_start {s : State} {k : Nat} {later : List Level} {cs : List CommandWord}
    (offered : s.Offers .init (encode .start :: cs)) (ready : s.initIn = List.replicate k .low ++ .high :: later) :
    ∃ t, steps (8 + 2 * k) s = .next t ∧ t.At .rest ∧ t.commands = cs ∧ t.bind = s.bind ∧ t.params = s.params ∧
      t.state = .configuring ∧ t.doneIn = s.doneIn ∧ t.io = s.io ++ startTrace s.params k := by
  have ⟨_, hreset, hsupported, _⟩ := offered
  have offersStart : (s.afterInit (encode .start :: cs)).Offers .start cs := ⟨rfl, hreset, hsupported, rfl⟩
  obtain ⟨run, -⟩ := startRunsToReady _ k later cs offersStart ready
  have sum : 8 + 2 * k = 1 + (7 + 2 * k) := by omega
  rw [sum, steps_add (steps_init offered), run]
  exact ⟨_, rfl, ⟨rfl, hreset, hsupported⟩, rfl, rfl, rfl, rfl, rfl, rfl⟩

/-- Settles O43: INIT and START, then the SENDs of the first `j` chunks or of all, then FINISH; the traces of the runs
one after the other deliver the chunks and the dummy bytes. -/
theorem configurationSequenceEndsDone : Obligations.ConfigurationSequenceEndsDone := by
  intro s chunks k n initLater doneLater cs offered budget ready done
  refine ⟨⟨_, steps_init offered, rfl, rfl⟩, ?sends, ?finish⟩
  all_goals
    have offersBoth : s.Offers .init
        (encode .start :: ((chunks.map fun d => encode (.send d)) ++ encode .finish :: cs)) := offered
    obtain ⟨t, toStart, a, hcommands, hbind, hparams, hstate, hdone, hio⟩ := steps_init_start offersBoth ready
  case sends =>
    intro j _
    have firstOffered : t.commands = ((chunks.take j).map fun d => encode (.send d)) ++
        (((chunks.drop j).map fun d => encode (.send d)) ++ encode .finish :: cs) := by
      rw [hcommands, ← List.append_assoc, ← List.map_append, List.take_append_drop]
    obtain ⟨u, toSends, after⟩ := steps_sends a firstOffered
    exact ⟨u, (steps_add toStart).trans toSends, after.row.seq, after.state.trans hstate⟩
  case finish =>
    have ⟨_, _, hsupported, _⟩ := offered
    have fits := s.window_fits_of_supported hsupported
    obtain ⟨u, toSends, after⟩ := steps_sends a hcommands
    have paramsKept : u.params = s.params := after.params.trans hparams
    have bindKept : u.bind = s.bind := after.bind.trans hbind
    have offersFinish : u.Offers .finish cs :=
      ⟨after.row.seq, after.row.noReset, after.row.supported, after.commands⟩
    have toEnd := finishRunsWhenDoneReadsHigh u n .high doneLater cs offersFinish (paramsKept ▸ budget)
      (after.doneIn.trans (hdone.trans done))
    refine ⟨_, startTrace s.params k ++ (sendTrace s.params s.bind chunks.flatten ++
      (pollTrace s.params s.bind n ++ [.high, .high].map (Event.pinRead .done))),
      (steps_add ((steps_add toStart).trans toSends)).trans toEnd, after.row.seq, rfl, rfl, ?events, ?delivered⟩
    case events => simp [after.io, hio, paramsKept, bindKept, hparams, hbind]
    case delivered =>
      exact delivered_startTrace_append _ _ k fun clk port =>
        delivered_sendTrace_append clk port chunks.flatten fits fun clk port =>
          delivered_finishTrace clk port n _ fits

end Sys2Proof.Machine

/-! Proofs of the family 60_exceptions, continued: the lifecycle state gates nothing (R181), and the inputs matter at
their reads only (R174). Both say that the controller does the same when some fields are changed: one lemma for every
change of fields that no test looks at. -/

namespace Sys2Proof.Machine

/-! ### Changes of the fields that no test looks at -/

/-- A change of `state`, of the results returned, and of the coming levels of the inputs. -/
structure Disguise where
  state : Lifecycle → Lifecycle
  result : Result → Result
  initIn : List Level → List Level
  doneIn : List Level → List Level

/-- The state with the change made. -/
def Disguise.on (d : Disguise) (s : State) : State :=
  { s with
    state := d.state s.state
    results := s.results.map d.result
    initIn := d.initIn s.initIn
    doneIn := d.doneIn s.doneIn }

/-- The change, made twice, is the change made once, and it treats alike what FINISH returns of a changed `state`. -/
structure Disguise.Stable (d : Disguise) : Prop where
  state : ∀ v, d.state (d.state v) = d.state v
  result : ∀ r, d.result (d.result r) = d.result r
  returned : ∀ v, d.result (.state (d.state v)) = d.result (.state v)
  initIn : ∀ ls, d.initIn (d.initIn ls) = d.initIn ls
  doneIn : ∀ ls, d.doneIn (d.doneIn ls) = d.doneIn ls

/-- The change leaves alone the levels of an input that the row of `s` reads. -/
structure Disguise.SparesReads (d : Disguise) (s : State) : Prop where
  init : s.seq = .st5 → d.initIn s.initIn = s.initIn
  done : s.seq = .fn2 ∨ s.seq = .fn3 → d.doneIn s.doneIn = s.doneIn

section
variable (d : Disguise) (s : State)

@[simp] theorem Disguise.on_seq : (d.on s).seq = s.seq := rfl
@[simp] theorem Disguise.on_state : (d.on s).state = d.state s.state := rfl
@[simp] theorem Disguise.on_bind : (d.on s).bind = s.bind := rfl
@[simp] theorem Disguise.on_params : (d.on s).params = s.params := rfl
@[simp] theorem Disguise.on_idx : (d.on s).idx = s.idx := rfl
@[simp] theorem Disguise.on_len : (d.on s).len = s.len := rfl
@[simp] theorem Disguise.on_cnt : (d.on s).cnt = s.cnt := rfl
@[simp] theorem Disguise.on_buf : (d.on s).buf = s.buf := rfl
@[simp] theorem Disguise.on_supported : (d.on s).supported = s.supported := rfl
@[simp] theorem Disguise.on_bufRead (i : Nat) : (d.on s).bufRead i = s.bufRead i := rfl

@[simp] theorem Disguise.on_emit (e : Event) : d.on (s.emit e) = (d.on s).emit e := rfl
@[simp] theorem Disguise.on_goto (l : Seq) : d.on (s.goto l) = (d.on s).goto l := rfl
@[simp] theorem Disguise.on_setIdx (n : Nat) : d.on (s.setIdx n) = (d.on s).setIdx n := rfl
@[simp] theorem Disguise.on_setCnt (n : Nat) : d.on (s.setCnt n) = (d.on s).setCnt n := rfl
@[simp] theorem Disguise.on_portWrite (m v : Nat) : d.on (s.portWrite m v) = (d.on s).portWrite m v := rfl
@[simp] theorem Disguise.on_capture (data : List Byte) : d.on (s.capture data) = (d.on s).capture data := rfl
@[simp] theorem Disguise.on_setState (v : Lifecycle) : d.on (s.setState v) = (d.on s).setState (d.state v) := rfl

@[simp] theorem Disguise.on_setLevel (p : OutPin) (l : Level) : d.on (s.setLevel p l) = (d.on s).setLevel p l := by
  cases p <;> rfl

@[simp] theorem Disguise.on_deliver (r : Result) : d.on (s.deliver r) = (d.on s).deliver (d.result r) := by
  simp [Disguise.on, State.deliver]

end

section
variable {d : Disguise} {s : State}

@[simp] theorem Disguise.Stable.on_on (h : d.Stable) : d.on (d.on s) = d.on s := by
  simp [Disguise.on, h.state, h.result, h.initIn, h.doneIn]

theorem Disguise.readLevel_init_on (h : d.initIn s.initIn = s.initIn) :
    (d.on s).readLevel .init = s.readLevel .init := by
  simp [State.readLevel, State.script, Disguise.on, h]

theorem Disguise.readLevel_done_on (h : d.doneIn s.doneIn = s.doneIn) :
    (d.on s).readLevel .done = s.readLevel .done := by
  simp [State.readLevel, State.script, Disguise.on, h]

theorem Disguise.Stable.on_consume_init_on (st : d.Stable) (h : d.initIn s.initIn = s.initIn) :
    d.on ((d.on s).consume .init) = d.on (s.consume .init) := by
  simp [Disguise.on, State.consume, h, st.state, st.result, st.doneIn]

theorem Disguise.Stable.on_consume_done_on (st : d.Stable) (h : d.doneIn s.doneIn = s.doneIn) :
    d.on ((d.on s).consume .done) = d.on (s.consume .done) := by
  simp [Disguise.on, State.consume, h, st.state, st.result, st.initIn]

/-! ### One step of a changed state -/

theorem mapNext_onSupported (f : State → State) (s : State) (k : Host.Outcome State Fault Refusal) :
    mapNext f (onSupported s k) = onSupported s (mapNext f k) := by
  unfold onSupported
  split_ifs <;> rfl

theorem Disguise.onSupported_congr {k k' : Host.Outcome State Fault Refusal}
    (h : mapNext d.on k = mapNext d.on k') :
    mapNext d.on (onSupported (d.on s) k) = mapNext d.on (onSupported s k') := by
  rw [mapNext_onSupported, mapNext_onSupported, h]
  rfl

theorem Disguise.Stable.execInit_on (st : d.Stable) :
    mapNext d.on (execInit (d.on s)) = mapNext d.on (execInit s) := by
  apply Disguise.onSupported_congr
  cases hq : s.seq <;> simp [hq, mapNext, st.on_on]

theorem Disguise.Stable.execStart_on (st : d.Stable) (spares : d.SparesReads s) :
    mapNext d.on (execStart (d.on s)) = mapNext d.on (execStart s) := by
  apply Disguise.onSupported_congr
  cases hq : s.seq with
  | st5 =>
    have unread := spares.init hq
    simp [hq, mapNext, st.on_consume_init_on unread, Disguise.readLevel_init_on unread]
  | _ => simp [hq, mapNext, st.on_on]

theorem Disguise.Stable.sendRow_on (st : d.Stable) : mapNext d.on (sendRow (d.on s)) = mapNext d.on (sendRow s) := by
  cases hq : s.seq with
  | sd0 => by_cases more : s.idx < s.len <;> simp [sendRow, hq, more, mapNext, st.on_on]
  | sdb => cases read : s.bufRead s.idx <;> simp [sendRow, hq, read, mapNext, st.on_on]
  | _ => simp [sendRow, hq, mapNext, st.on_on]

theorem Disguise.Stable.execSend_on (st : d.Stable) (data : List Byte) :
    mapNext d.on (execSend data (d.on s)) = mapNext d.on (execSend data s) := by
  apply Disguise.onSupported_congr
  by_cases hrest : s.seq = .rest
  · simp [hrest, mapNext, st.on_on]
  by_cases hdata : s.buf = data
  · simpa [hrest, hdata] using st.sendRow_on
  · simp [hrest, hdata]

theorem Disguise.Stable.execFinish_on (st : d.Stable) (spares : d.SparesReads s) :
    mapNext d.on (execFinish (d.on s)) = mapNext d.on (execFinish s) := by
  apply Disguise.onSupported_congr
  cases hq : s.seq with
  | fn1 => by_cases spent : s.cnt = 0 <;> simp [hq, spent, mapNext, st.on_on]
  | fn2 =>
    have unread := spares.done (.inl hq)
    simp [hq, mapNext, st.on_consume_done_on unread, Disguise.readLevel_done_on unread]
  | fnc => by_cases spent : s.cnt = 0 <;> simp [hq, spent, mapNext, st.on_on]
  | fn3 =>
    have unread := spares.done (.inr hq)
    cases read : s.readLevel .done <;>
      simp [hq, State.reread_eq, read, mapNext, st.on_consume_done_on unread, Disguise.readLevel_done_on unread,
        st.state]
  | fn9 => simp [hq, mapNext, st.on_on, st.returned]
  | _ => simp [hq, mapNext, st.on_on]

/-- Every command does the same on a changed state, but for the change. -/
theorem Disguise.Stable.exec_on (st : d.Stable) (spares : d.SparesReads s) (i : Instr) :
    mapNext d.on (exec i (d.on s)) = mapNext d.on (exec i s) := by
  cases i with
  | init => exact st.execInit_on
  | start => exact st.execStart_on spares
  | send data => exact st.execSend_on data
  | finish => exact st.execFinish_on spares

theorem Disguise.Stable.resetInput_on (st : d.Stable) :
    mapNext d.on (resetInput (d.on s)) = mapNext d.on (resetInput s) := by
  have afterReset : d.on (d.on s).afterReset = d.on s.afterReset := by
    simp [Disguise.on, State.afterReset, st.result, st.initIn, st.doneIn]
  by_cases hrest : s.seq = .rest <;> simp [resetInput, hrest, mapNext, afterReset]

/-- The controller finds the same on the channel of a changed state. -/
theorem Disguise.Stable.fetched_on (st : d.Stable) (spares : d.SparesReads s) :
    mapNext d.on ((fetch (d.on s)).outcome (d.on s)) = mapNext d.on ((fetch s).outcome s) := by
  cases hcommands : s.commands with
  | nil =>
    rw [fetch_of_nil (s := d.on s) hcommands, fetch_of_nil hcommands]
    exact congrArg Host.Outcome.next st.on_on
  | cons w cs =>
    cases hdecode : decode w with
    | error e =>
      rw [fetch_of_decode_error (s := d.on s) hcommands hdecode, fetch_of_decode_error hcommands hdecode]
      rfl
    | ok i =>
      rw [fetch_of_decode_ok (s := d.on s) hcommands hdecode, fetch_of_decode_ok hcommands hdecode]
      exact st.exec_on (s := s.withCommands cs) ⟨spares.init, spares.done⟩ i

/-- The step does the same on a changed state, but for the change. -/
theorem Disguise.Stable.step_on (st : d.Stable) (spares : d.SparesReads s) :
    mapNext d.on (step (d.on s)) = mapNext d.on (step s) := by
  cases hreset : s.resetIn with
  | true =>
    rw [step_of_resetIn (s := d.on s) hreset, step_of_resetIn hreset]
    exact st.resetInput_on
  | false =>
    cases hi : s.inProgress with
    | none =>
      have hrest := State.inProgress_eq_none_iff.1 hi
      rw [step_of_rest (s := d.on s) hreset hrest, step_of_rest hreset hrest]
      exact st.fetched_on spares
    | some i =>
      rw [step_of_inProgress (s := d.on s) hreset hi, step_of_inProgress hreset hi]
      exact st.exec_on spares i

end

/-! ### The lifecycle state out of sight -/

/-- A result with the value FINISH returned out of sight. -/
def Result.hideLifecycle : Result → Result
  | .state _ => .state .idle
  | .status v => .status v

/-- `State.hideLifecycle` as a change of `state` and of the results. -/
def Disguise.lifecycle : Disguise :=
  { state := fun _ => .idle, result := Result.hideLifecycle, initIn := id, doneIn := id }

theorem Disguise.lifecycle_stable : Disguise.lifecycle.Stable where
  state _ := rfl
  result r := by cases r <;> rfl
  returned _ := rfl
  initIn _ := rfl
  doneIn _ := rfl

theorem Disguise.lifecycle_on (s : State) : Disguise.lifecycle.on s = s.hideLifecycle := by
  have sameResults : s.hideLifecycle.results = s.results.map Result.hideLifecycle :=
    List.map_congr_left fun r _ => by cases r <;> rfl
  rw [Disguise.on, State.hideLifecycle, Disguise.lifecycle]
  exact congrArg (fun rs => { s with state := .idle, results := rs }) sameResults.symm

theorem mapNext_hideLifecycle_step {s s' : State} (h : s.hideLifecycle = s'.hideLifecycle) :
    mapNext State.hideLifecycle (step s) = mapNext State.hideLifecycle (step s') := by
  have hide : Disguise.lifecycle.on = State.hideLifecycle := funext Disguise.lifecycle_on
  have hidden (u : State) := Disguise.lifecycle_stable.step_on (s := u) ⟨fun _ => rfl, fun _ => rfl⟩
  rw [hide] at hidden
  rw [← hidden s, h, hidden s']

/-- Settles O42, by induction on the number of steps: each leads to states, faults or refusals that agree. -/
theorem lifecycleGatesNothing : Obligations.LifecycleGatesNothing := by
  intro n
  induction n with
  | zero => exact fun s s' h => congrArg Host.Outcome.next h
  | succ n ih =>
    intro s s' h
    have agree := mapNext_hideLifecycle_step h
    simp only [steps]
    cases hs : step s <;> cases hs' : step s' <;> rw [hs, hs'] at agree
    case next.next t t' => exact ih t t' (Host.Outcome.next.inj agree)
    case fault.fault | fault.refused | refused.fault | refused.refused => exact agree
    all_goals simp [mapNext] at agree

/-! ### The coming levels of an input -/

theorem Move.initIn_eq {s t : State} (move : Move s t) (h : s.seq ≠ .st5) : t.initIn = s.initIn := by
  cases move with
  | st5High a | st5Low a => exact absurd a.seq h
  | _ => simp

theorem Move.doneIn_eq {s t : State} (move : Move s t) (h2 : s.seq ≠ .fn2) (h3 : s.seq ≠ .fn3) :
    t.doneIn = s.doneIn := by
  cases move with
  | fn2High a | fn2Low a => exact absurd a.seq h2
  | fn3High a | fn3Low a => exact absurd a.seq h3
  | _ => simp

theorem mapNext_eq_self {f : State → State} {o : Host.Outcome State Fault Refusal}
    (h : ∀ t, o = .next t → f t = t) : mapNext f o = o := by
  cases o with
  | next t => exact congrArg Host.Outcome.next (h t rfl)
  | fault r => rfl
  | refused r => rfl

/-- Other levels of `init` to come. -/
def Disguise.initLevels (levels : List Level) : Disguise :=
  { state := id, result := id, initIn := fun _ => levels, doneIn := id }

/-- Other levels of `done` to come. -/
def Disguise.doneLevels (levels : List Level) : Disguise :=
  { state := id, result := id, initIn := id, doneIn := fun _ => levels }

theorem Disguise.initLevels_on (levels : List Level) :
    (Disguise.initLevels levels).on = fun s => { s with initIn := levels } := by
  funext s
  simp [Disguise.on, Disguise.initLevels]

theorem Disguise.doneLevels_on (levels : List Level) :
    (Disguise.doneLevels levels).on = fun s => { s with doneIn := levels } := by
  funext s
  simp [Disguise.on, Disguise.doneLevels]

theorem Disguise.initLevels_stable (levels : List Level) : (Disguise.initLevels levels).Stable := by
  constructor <;> exact fun _ => rfl

theorem Disguise.doneLevels_stable (levels : List Level) : (Disguise.doneLevels levels).Stable := by
  constructor <;> exact fun _ => rfl

/-- Settles O41: the step does the same but for the levels, and at a row that does not read the pin it keeps them. -/
theorem inputsAreSampledAtTheirReadsOnly : Obligations.InputsAreSampledAtTheirReadsOnly := by
  intro s levels
  constructor
  · intro hread
    have same := (Disguise.initLevels_stable levels).step_on (s := s) ⟨fun hq => absurd hq hread, fun _ => rfl⟩
    rw [Disguise.initLevels_on] at same
    rw [← same]
    refine (mapNext_eq_self fun t ht => ?_).symm
    have kept : t.initIn = levels := (move_of_step ht).initIn_eq hread
    rw [← kept]
  · intro hread hreread
    have spares : (Disguise.doneLevels levels).SparesReads s :=
      ⟨fun _ => rfl, fun hq => (hq.elim hread hreread).elim⟩
    have same := (Disguise.doneLevels_stable levels).step_on spares
    rw [Disguise.doneLevels_on] at same
    rw [← same]
    refine (mapNext_eq_self fun t ht => ?_).symm
    have kept : t.doneIn = levels := (move_of_step ht).doneIn_eq hread hreread
    rw [← kept]

end Sys2Proof.Machine
